-- ==== Sys2Proof/Word.lean ====
section
/-! DEFINITION. The words of the block (00_scope.md R2): packet words of 128 bits, registers of 64
bits, VRAM words and host addresses of 32 bits. Bit 0 is the least significant (R3). -/

namespace Sys2Proof

/-- A VRAM word, a half of a privileged register, a host address. -/
abbrev Word32 := BitVec 32

/-- A register. -/
abbrev Word64 := BitVec 64

/-- A packet word (30_encoding.md R150). -/
abbrev Qword := BitVec 128

/-- A byte of a VRAM word. -/
abbrev Byte := BitVec 8

end Sys2Proof
end

