-- ==== Sys2Proof/Syntax.lean ====
section
/-! DEFINITION. The syntax: the names the rules use, the host calls, and `Instr`, one constructor
for each of the 124 rows of spec/opcode_table.json. -/

namespace Sys2Proof

/-- The two ingress paths of a qword (40_gif_decoder.md R200). -/
inductive Path where
  | feed
  | path3
deriving DecidableEq, Repr

/-- What caused a general register write (00_scope.md R6). -/
inductive Src where
  | tag
  | packed
  | reglist
  | ad
  | host
deriving DecidableEq, Repr

/-- The three host calls on register addresses, as error records name them
(45_privileged_registers.md R431). -/
inductive HostOp where
  | w64
  | w32
  | r32
deriving DecidableEq, Repr

/-- Which half of a 64-bit privileged register (45_privileged_registers.md R430). -/
inductive Part where
  | low
  | high
deriving DecidableEq, Repr

/-- The two blanking events a host reports (45_privileged_registers.md R455). -/
inductive VideoEvent where
  | hblank
  | vblankStart
deriving DecidableEq, Repr

/-- The two rendering contexts (10_state.md R25). -/
inductive Ctx where
  | c1
  | c2
deriving DecidableEq, Repr

/-- A mapped access to a privileged register: `write64` at its base address, `write32` or `read32`
at one of its halves (45_privileged_registers.md R431). -/
inductive PrivAccess where
  | write64 (v : Word64)
  | write32 (part : Part) (v : Word32)
  | read32 (part : Part)
deriving DecidableEq, Repr

/-- The fields of a GIFtag other than FLG, which the constructor of `Instr` says
(30_encoding.md R151). NLOOP is held in 15 bits under both widths of R152. -/
structure TagFields where
  nloop : BitVec 15
  eop   : Bool
  pre   : Bool
  prim  : BitVec 11
  nreg  : BitVec 4
  regs  : BitVec 64
deriving DecidableEq, Repr

/-- The general registers by name, one for each mapped id of 30_encoding.md R161. -/
inductive GReg where
  | prim
  | rgbaq
  | st
  | uv
  | xyzf2
  | xyz2
  | tex0_1
  | tex0_2
  | clamp_1
  | clamp_2
  | fog
  | xyzf3
  | xyz3
  | tex1_1
  | tex1_2
  | tex2_1
  | tex2_2
  | xyoffset_1
  | xyoffset_2
  | prmodecont
  | prmode
  | texclut
  | scanmsk
  | miptbp1_1
  | miptbp1_2
  | miptbp2_1
  | miptbp2_2
  | texa
  | fogcol
  | texflush
  | scissor_1
  | scissor_2
  | alpha_1
  | alpha_2
  | dimx
  | dthe
  | colclamp
  | test_1
  | test_2
  | pabe
  | fba_1
  | fba_2
  | frame_1
  | frame_2
  | zbuf_1
  | zbuf_2
  | bitbltbuf
  | trxpos
  | trxreg
  | trxdir
  | hwreg
  | signal
  | finish
  | label
deriving DecidableEq, Repr

/-- The privileged registers by name (30_encoding.md R170). -/
inductive PrivReg where
  | pmode
  | smode1
  | smode2
  | srfsh
  | synch1
  | synch2
  | syncv
  | dispfb1
  | display1
  | dispfb2
  | display2
  | extbuf
  | extdata
  | extwrite
  | bgcolor
  | csr
  | imr
  | busdir
  | siglblid
deriving DecidableEq, Repr

/-- A host call with its operands as the host gives them: the machine's only input
(00_scope.md R7). A qword is `data[1]` above `data[0]` (30_encoding.md R150). -/
inductive Call where
  | feedGif (q : Qword)
  | sendPath3 (q : Qword)
  | endOfStream (path : Path)
  | write64 (addr : Word32) (v : Word64)
  | write32 (addr : Word32) (v : Word32)
  | read32 (addr : Word32)
  | readHwreg
  | videoEvent (kind : VideoEvent)
  | reset
  | getDisplayResolution
  | getInternalResolution
  | getFramebuffer
deriving DecidableEq, Repr

/-- One constructor for each row of spec/opcode_table.json, in the table's order. A row's operands
are the fields the table gives it. Rows of general registers are the register write itself,
whatever path carries it (42_general_registers.md R280); `UNMAPPED_ID` keeps the path, which its
error record names (R336). -/
inductive Instr where
  -- GIFtags (30_encoding.md R151 to R156)
  | giftagPacked (path : Path) (t : TagFields)
  | giftagReglist (path : Path) (t : TagFields)
  | giftagImage (path : Path) (t : TagFields)
  | giftagFlg3 (path : Path) (t : TagFields)
  -- PACKED payload qwords (30_encoding.md R157)
  | pkPrim (prim : BitVec 11)
  | pkRgbaq (r : BitVec 8) (g : BitVec 8) (b : BitVec 8) (a : BitVec 8)
  | pkSt (sc : BitVec 32) (tc : BitVec 32) (qc : BitVec 32)
  | pkUv (uc : BitVec 14) (vc : BitVec 14)
  | pkXyzf2 (x : BitVec 16) (y : BitVec 16) (z : BitVec 24) (f : BitVec 8) (adc : Bool)
  | pkXyz2 (x : BitVec 16) (y : BitVec 16) (z : BitVec 32) (adc : Bool)
  | pkTex0_1 (v : BitVec 64)
  | pkTex0_2 (v : BitVec 64)
  | pkClamp_1 (v : BitVec 64)
  | pkClamp_2 (v : BitVec 64)
  | pkFog (f : BitVec 8)
  | pkReservedB
  | pkXyzf3 (x : BitVec 16) (y : BitVec 16) (z : BitVec 24) (f : BitVec 8) (adc : Bool)
  | pkXyz3 (x : BitVec 16) (y : BitVec 16) (z : BitVec 32) (adc : Bool)
  | pkAD (addr : BitVec 8) (v : BitVec 64)
  | pkNop
  -- general register writes (30_encoding.md R161, R162)
  | prim (v : Word64)
  | rgbaq (v : Word64)
  | st (v : Word64)
  | uv (v : Word64)
  | xyzf2 (v : Word64)
  | xyz2 (v : Word64)
  | tex0_1 (v : Word64)
  | tex0_2 (v : Word64)
  | clamp_1 (v : Word64)
  | clamp_2 (v : Word64)
  | fog (v : Word64)
  | xyzf3 (v : Word64)
  | xyz3 (v : Word64)
  | tex1_1 (v : Word64)
  | tex1_2 (v : Word64)
  | tex2_1 (v : Word64)
  | tex2_2 (v : Word64)
  | xyoffset_1 (v : Word64)
  | xyoffset_2 (v : Word64)
  | prmodecont (v : Word64)
  | prmode (v : Word64)
  | texclut (v : Word64)
  | scanmsk (v : Word64)
  | miptbp1_1 (v : Word64)
  | miptbp1_2 (v : Word64)
  | miptbp2_1 (v : Word64)
  | miptbp2_2 (v : Word64)
  | texa (v : Word64)
  | fogcol (v : Word64)
  | texflush (v : Word64)
  | scissor_1 (v : Word64)
  | scissor_2 (v : Word64)
  | alpha_1 (v : Word64)
  | alpha_2 (v : Word64)
  | dimx (v : Word64)
  | dthe (v : Word64)
  | colclamp (v : Word64)
  | test_1 (v : Word64)
  | test_2 (v : Word64)
  | pabe (v : Word64)
  | fba_1 (v : Word64)
  | fba_2 (v : Word64)
  | frame_1 (v : Word64)
  | frame_2 (v : Word64)
  | zbuf_1 (v : Word64)
  | zbuf_2 (v : Word64)
  | bitbltbuf (v : Word64)
  | trxpos (v : Word64)
  | trxreg (v : Word64)
  | trxdir (v : Word64)
  | hwreg (v : Word64)
  | signal (v : Word64)
  | finish (v : Word64)
  | label (v : Word64)
  | unmappedId (src : Src) (id : BitVec 8) (v : Word64)
  -- REGLIST slots (30_encoding.md R158)
  | rlPrim (v : Word64)
  | rlRgbaq (v : Word64)
  | rlSt (v : Word64)
  | rlUv (v : Word64)
  | rlXyzf2 (v : Word64)
  | rlXyz2 (v : Word64)
  | rlTex0_1 (v : Word64)
  | rlTex0_2 (v : Word64)
  | rlClamp_1 (v : Word64)
  | rlClamp_2 (v : Word64)
  | rlFog (v : Word64)
  | rlReservedB (v : Word64)
  | rlXyzf3 (v : Word64)
  | rlXyz3 (v : Word64)
  | rlNoneE (v : Word64)
  | rlNoneF (v : Word64)
  -- IMAGE payload (30_encoding.md R159)
  | imageQword (q : Qword)
  -- privileged register accesses (30_encoding.md R170)
  | privPmode (acc : PrivAccess)
  | privSmode1 (acc : PrivAccess)
  | privSmode2 (acc : PrivAccess)
  | privSrfsh (acc : PrivAccess)
  | privSynch1 (acc : PrivAccess)
  | privSynch2 (acc : PrivAccess)
  | privSyncv (acc : PrivAccess)
  | privDispfb1 (acc : PrivAccess)
  | privDisplay1 (acc : PrivAccess)
  | privDispfb2 (acc : PrivAccess)
  | privDisplay2 (acc : PrivAccess)
  | privExtbuf (acc : PrivAccess)
  | privExtdata (acc : PrivAccess)
  | privExtwrite (acc : PrivAccess)
  | privBgcolor (acc : PrivAccess)
  | privCsr (acc : PrivAccess)
  | privImr (acc : PrivAccess)
  | privBusdir (acc : PrivAccess)
  | privSiglblid (acc : PrivAccess)
  | privUnmapped (op : HostOp) (addr : Word32)
  -- host calls (00_scope.md R7)
  | hostFeedGif (q : Qword)
  | hostSendPath3 (q : Qword)
  | hostEndOfStream (path : Path)
  | hostWrite64 (addr : Word32) (v : Word64)
  | hostWrite32 (addr : Word32) (v : Word32)
  | hostRead32 (addr : Word32)
  | hostReadHwreg
  | hostVideoEvent (kind : VideoEvent)
  | hostReset
  | hostGetDisplayResolution
  | hostGetInternalResolution
  | hostGetFramebuffer
deriving DecidableEq, Repr

end Sys2Proof
end

