-- ==== Sys2Proof/Machine/Types.lean ====
section
/-! DEFINITION. The data that both the configuration and the state are made of: local memory, the
general register file, vertices and draw events (10_state.md R25 to R44, R53;
43_primitive_assembler.md R353). -/

namespace Sys2Proof.Machine

/-- Local memory as its nonzero bytes: byte `4w + b` is bits [8b+7:8b] of VRAM word `w`
(20_memory.md R101), and an unlisted byte is 0, the reset contents (10_state.md R53). -/
abbrev Memory := List Host.Cell

/-- The one form a memory has: addresses strictly rising, no listed byte 0. -/
abbrev Memory.wf (m : Memory) : Prop :=
  m.Pairwise (fun c d => c.1 < d.1) ∧ ∀ c ∈ m, c.2 ≠ 0#8

/-- The two copies of a paired register (10_state.md R25). -/
structure Pair where
  c1 : Word64
  c2 : Word64
deriving DecidableEq, Repr

/-- The general register file: every register stores all 64 bits as written (10_state.md R24). -/
structure RegFile where
  /-- PRIM, R26. -/
  prim : Word64
  /-- RGBAQ, R27. -/
  rgbaq : Word64
  /-- ST, R28. -/
  st : Word64
  /-- UV, R28. -/
  uv : Word64
  /-- XYZF2, R29. -/
  xyzf2 : Word64
  /-- XYZ2, R29. -/
  xyz2 : Word64
  /-- XYZF3, R29. -/
  xyzf3 : Word64
  /-- XYZ3, R29. -/
  xyz3 : Word64
  /-- FOG, R30. -/
  fog : Word64
  /-- PRMODECONT, R35. -/
  prmodecont : Word64
  /-- PRMODE, R35. -/
  prmode : Word64
  /-- TEXCLUT, R36. -/
  texclut : Word64
  /-- SCANMSK, R36. -/
  scanmsk : Word64
  /-- TEXA, R36. -/
  texa : Word64
  /-- FOGCOL, R36. -/
  fogcol : Word64
  /-- DIMX, R39. -/
  dimx : Word64
  /-- DTHE, R39. -/
  dthe : Word64
  /-- COLCLAMP, R39. -/
  colclamp : Word64
  /-- PABE, R39. -/
  pabe : Word64
  /-- BITBLTBUF, R42. -/
  bitbltbuf : Word64
  /-- TRXPOS, R42. -/
  trxpos : Word64
  /-- TRXREG, R42. -/
  trxreg : Word64
  /-- TRXDIR, R42. -/
  trxdir : Word64
  /-- TEX0[1] and TEX0[2], R31. -/
  tex0 : Pair
  /-- CLAMP[1] and CLAMP[2], R32. -/
  clamp : Pair
  /-- TEX1[1] and TEX1[2], R33. -/
  tex1 : Pair
  /-- XYOFFSET[1] and XYOFFSET[2], R34. -/
  xyoffset : Pair
  /-- MIPTBP1[1] and MIPTBP1[2], R37. -/
  miptbp1 : Pair
  /-- MIPTBP2[1] and MIPTBP2[2], R37. -/
  miptbp2 : Pair
  /-- SCISSOR[1] and SCISSOR[2], R38. -/
  scissor : Pair
  /-- ALPHA[1] and ALPHA[2], R39. -/
  alpha : Pair
  /-- TEST[1] and TEST[2], R40. -/
  test : Pair
  /-- FBA[1] and FBA[2], R39. -/
  fba : Pair
  /-- FRAME[1] and FRAME[2], R41. -/
  frame : Pair
  /-- ZBUF[1] and ZBUF[2], R41. -/
  zbuf : Pair
deriving DecidableEq, Repr

/-- A vertex as captured at its commit (10_state.md R43). -/
structure Vertex where
  x : BitVec 16
  y : BitVec 16
  z : BitVec 32
  f : BitVec 8
  r : BitVec 8
  g : BitVec 8
  b : BitVec 8
  a : BitVec 8
  q : BitVec 32
  s : BitVec 32
  t : BitVec 32
  u : BitVec 14
  v : BitVec 14
deriving DecidableEq, Repr

/-- The primitive types of PRIM bits [2:0] (10_state.md R26). -/
inductive PrimType where
  | point
  | line
  | lineStrip
  | triangle
  | triangleStrip
  | triangleFan
  | sprite
  | reserved
deriving DecidableEq, Repr

/-- The attribute flags of a draw (43_primitive_assembler.md R351). -/
structure PrimFlags where
  iip : Bool
  tme : Bool
  fge : Bool
  abe : Bool
  aa1 : Bool
  fst : Bool
  fix : Bool
deriving DecidableEq, Repr

/-- A draw event (43_primitive_assembler.md R353). -/
structure DrawEvent where
  type  : PrimType
  flags : PrimFlags
  ctxt  : Ctx
  verts : List Vertex
deriving DecidableEq, Repr

end Sys2Proof.Machine
end

