-- ==== Sys2Proof/Config.lean ====
section
/-! DEFINITION. What is fixed for a machine: the construction parameters of 00_scope.md R1, and the
open points of the spec, as constants that nothing can evaluate. -/

namespace Sys2Proof

/-- The width of NLOOP, `P_NLOOP_BITS` (30_encoding.md R152). -/
inductive NloopBits where
  | bits14
  | bits15
deriving DecidableEq, Repr

/-- `P_ODD_BW_POLICY` (20_memory.md R114). -/
inductive OddBwPolicy where
  | floor
  | refuse
deriving DecidableEq, Repr

/-- The parameters of 00_scope.md R1 that are data. They are fixed at construction
(70_reset_and_hazards.md R491); the state carries them so that a statement about every state is a
statement about every value of them. -/
structure Params where
  vramWords         : Nat
  nloopBits         : NloopBits
  ctxWriteByAddress : Bool
  csrRev            : BitVec 8
  csrId             : BitVec 8
  oddBwPolicy       : OddBwPolicy
deriving DecidableEq, Repr

/-- The default values of 00_scope.md R1. -/
def Config.defaults : Params where
  vramWords := 1048576
  nloopBits := .bits15
  ctxWriteByAddress := false
  csrRev := 0x1B#8
  csrId := 0x55#8
  oddBwPolicy := .floor

/-- `P_RASTERIZER`, the open parameter of 43_primitive_assembler.md R354: the word writes (word
address and value, in order) by which a draw changes VRAM, as any function of the draw event, the
register file and VRAM. The machine performs only the writes in bounds, so every function of R354
is of this form (log entry 3). -/
opaque Config.rasterize (ev : Machine.DrawEvent) (regs : Machine.RegFile)
    (vram : Machine.Memory) : List (Nat × Word32)

/-- A free choice: when both codes of a local-to-local transfer are invalid, whether its one
E_UNMODELLED names the source's (44_transfer_engine.md R382 says only "psm"; log entry 7). -/
opaque Config.namesSourcePsm (spsm dpsm : BitVec 6) : Bool

end Sys2Proof
end

