-- ==== Sys2Proof/Decode.lean ====
section
/-! DEFINITION. The decoder: from the bits of a qword, a slot, a register id or an address, read in
the context that says what they are, to an instruction; the encoder back; and the reading of the
opcode table's own words. Every field is taken out of its bits here, once.

The decoder is total: 30_encoding.md R156 makes every qword a valid tag, 41_packed.md R250 gives
every descriptor a rule, and an id or address without a mapping is an instruction of its own
(UNMAPPED_ID, PRIV_UNMAPPED). -/

namespace Sys2Proof

/-! ## Bits -/

/-- One bit as a flag. -/
def bitAt {n : Nat} (v : BitVec n) (i : Nat) : Bool := v.getLsbD i

/-- A flag as a bit string of one bit. -/
def flagBit (b : Bool) : BitVec 1 := BitVec.ofBool b

/-- A field at its place in a qword, every other bit 0. -/
def place {n : Nat} (lo : Nat) (v : BitVec n) : Qword := v.setWidth 128 <<< lo

/-! ## GIFtags (30_encoding.md R151 to R156) -/

/-- NLOOP of a tag qword: 15 bits, or 14 under `P_NLOOP_BITS = 14` (R152). -/
def tagNloop (nb : NloopBits) (q : Qword) : BitVec 15 :=
  match nb with
  | .bits15 => q.extractLsb' 0 15
  | .bits14 => (q.extractLsb' 0 14).setWidth 15

/-- FLG, q[59:58] (R151). -/
def tagFlg (q : Qword) : BitVec 2 := q.extractLsb' 58 2

/-- The other fields of a tag qword (R151). -/
def tagFields (nb : NloopBits) (q : Qword) : TagFields where
  nloop := tagNloop nb q
  eop := bitAt q 15
  pre := bitAt q 46
  prim := q.extractLsb' 47 11
  nreg := q.extractLsb' 60 4
  regs := q.extractLsb' 64 64

/-- A tag qword read as an instruction: FLG selects the row (R153). -/
def decodeTag (nb : NloopBits) (path : Path) (q : Qword) : Instr :=
  match tagFlg q with
  | 0#2 => .giftagPacked path (tagFields nb q)
  | 1#2 => .giftagReglist path (tagFields nb q)
  | 2#2 => .giftagImage path (tagFields nb q)
  | _ => .giftagFlg3 path (tagFields nb q)

/-- The qword of a tag, unnamed bits 0 (R151). -/
def encodeTag (flg : BitVec 2) (t : TagFields) : Qword :=
  place 0 t.nloop ||| place 15 (flagBit t.eop) ||| place 46 (flagBit t.pre) ||| place 47 t.prim |||
    place 58 flg ||| place 60 t.nreg ||| place 64 t.regs

/-- REGS[i] of a tag's descriptors (R155). -/
def descriptorAt (regs : BitVec 64) (i : Nat) : BitVec 4 := regs.extractLsb' (4 * i) 4

/-- `reg_count`: NREG with 0 read as 16 (R154). -/
def regCountOf (nreg : BitVec 4) : Nat := if nreg = 0#4 then 16 else nreg.toNat

/-- The three payload formats. -/
inductive Format where
  | packed
  | reglist
  | image
deriving DecidableEq, Repr

/-- The payload format FLG selects; 3 is decoded as IMAGE (R153, 40_gif_decoder.md R209). -/
def formatOf (flg : BitVec 2) : Format :=
  if flg = 0#2 then .packed else if flg = 1#2 then .reglist else .image

/-! ## PACKED payload qwords (30_encoding.md R157) -/

/-- PK_PRIM: q[10:0]. -/
def pkPrim_prim (q : Qword) : BitVec 11 := q.extractLsb' 0 11

/-- PK_RGBAQ: q[7:0]. -/
def pkRgbaq_r (q : Qword) : BitVec 8 := q.extractLsb' 0 8

/-- PK_RGBAQ: q[39:32]. -/
def pkRgbaq_g (q : Qword) : BitVec 8 := q.extractLsb' 32 8

/-- PK_RGBAQ: q[71:64]. -/
def pkRgbaq_b (q : Qword) : BitVec 8 := q.extractLsb' 64 8

/-- PK_RGBAQ: q[103:96]. -/
def pkRgbaq_a (q : Qword) : BitVec 8 := q.extractLsb' 96 8

/-- PK_ST: q[31:0]. -/
def pkSt_sc (q : Qword) : BitVec 32 := q.extractLsb' 0 32

/-- PK_ST: q[63:32]. -/
def pkSt_tc (q : Qword) : BitVec 32 := q.extractLsb' 32 32

/-- PK_ST: q[95:64]. -/
def pkSt_qc (q : Qword) : BitVec 32 := q.extractLsb' 64 32

/-- PK_UV: q[13:0]. -/
def pkUv_uc (q : Qword) : BitVec 14 := q.extractLsb' 0 14

/-- PK_UV: q[45:32]. -/
def pkUv_vc (q : Qword) : BitVec 14 := q.extractLsb' 32 14

/-- PK_XYZF2: q[15:0]. -/
def pkXyzf2_x (q : Qword) : BitVec 16 := q.extractLsb' 0 16

/-- PK_XYZF2: q[47:32]. -/
def pkXyzf2_y (q : Qword) : BitVec 16 := q.extractLsb' 32 16

/-- PK_XYZF2: q[91:68]. -/
def pkXyzf2_z (q : Qword) : BitVec 24 := q.extractLsb' 68 24

/-- PK_XYZF2: q[107:100]. -/
def pkXyzf2_f (q : Qword) : BitVec 8 := q.extractLsb' 100 8

/-- PK_XYZF2: q[111]. -/
def pkXyzf2_adc (q : Qword) : Bool := bitAt q 111

/-- PK_XYZ2: q[15:0]. -/
def pkXyz2_x (q : Qword) : BitVec 16 := q.extractLsb' 0 16

/-- PK_XYZ2: q[47:32]. -/
def pkXyz2_y (q : Qword) : BitVec 16 := q.extractLsb' 32 16

/-- PK_XYZ2: q[95:64]. -/
def pkXyz2_z (q : Qword) : BitVec 32 := q.extractLsb' 64 32

/-- PK_XYZ2: q[111]. -/
def pkXyz2_adc (q : Qword) : Bool := bitAt q 111

/-- PK_TEX0_1: q[63:0]. -/
def pkTex0_1_v (q : Qword) : BitVec 64 := q.extractLsb' 0 64

/-- PK_TEX0_2: q[63:0]. -/
def pkTex0_2_v (q : Qword) : BitVec 64 := q.extractLsb' 0 64

/-- PK_CLAMP_1: q[63:0]. -/
def pkClamp_1_v (q : Qword) : BitVec 64 := q.extractLsb' 0 64

/-- PK_CLAMP_2: q[63:0]. -/
def pkClamp_2_v (q : Qword) : BitVec 64 := q.extractLsb' 0 64

/-- PK_FOG: q[107:100]. -/
def pkFog_f (q : Qword) : BitVec 8 := q.extractLsb' 100 8

/-- PK_XYZF3: q[15:0]. -/
def pkXyzf3_x (q : Qword) : BitVec 16 := q.extractLsb' 0 16

/-- PK_XYZF3: q[47:32]. -/
def pkXyzf3_y (q : Qword) : BitVec 16 := q.extractLsb' 32 16

/-- PK_XYZF3: q[91:68]. -/
def pkXyzf3_z (q : Qword) : BitVec 24 := q.extractLsb' 68 24

/-- PK_XYZF3: q[107:100]. -/
def pkXyzf3_f (q : Qword) : BitVec 8 := q.extractLsb' 100 8

/-- PK_XYZF3: q[111]. -/
def pkXyzf3_adc (q : Qword) : Bool := bitAt q 111

/-- PK_XYZ3: q[15:0]. -/
def pkXyz3_x (q : Qword) : BitVec 16 := q.extractLsb' 0 16

/-- PK_XYZ3: q[47:32]. -/
def pkXyz3_y (q : Qword) : BitVec 16 := q.extractLsb' 32 16

/-- PK_XYZ3: q[95:64]. -/
def pkXyz3_z (q : Qword) : BitVec 32 := q.extractLsb' 64 32

/-- PK_XYZ3: q[111]. -/
def pkXyz3_adc (q : Qword) : Bool := bitAt q 111

/-- PK_A_D: q[71:64]. -/
def pkAD_addr (q : Qword) : BitVec 8 := q.extractLsb' 64 8

/-- PK_A_D: q[63:0]. -/
def pkAD_v (q : Qword) : BitVec 64 := q.extractLsb' 0 64

/-- A PACKED payload qword read under its descriptor (R157). -/
def decodePacked (d : BitVec 4) (q : Qword) : Instr :=
  match d with
  | 0x0#4 => .pkPrim (pkPrim_prim q)
  | 0x1#4 => .pkRgbaq (pkRgbaq_r q) (pkRgbaq_g q) (pkRgbaq_b q) (pkRgbaq_a q)
  | 0x2#4 => .pkSt (pkSt_sc q) (pkSt_tc q) (pkSt_qc q)
  | 0x3#4 => .pkUv (pkUv_uc q) (pkUv_vc q)
  | 0x4#4 => .pkXyzf2 (pkXyzf2_x q) (pkXyzf2_y q) (pkXyzf2_z q) (pkXyzf2_f q) (pkXyzf2_adc q)
  | 0x5#4 => .pkXyz2 (pkXyz2_x q) (pkXyz2_y q) (pkXyz2_z q) (pkXyz2_adc q)
  | 0x6#4 => .pkTex0_1 (pkTex0_1_v q)
  | 0x7#4 => .pkTex0_2 (pkTex0_2_v q)
  | 0x8#4 => .pkClamp_1 (pkClamp_1_v q)
  | 0x9#4 => .pkClamp_2 (pkClamp_2_v q)
  | 0xA#4 => .pkFog (pkFog_f q)
  | 0xB#4 => .pkReservedB
  | 0xC#4 => .pkXyzf3 (pkXyzf3_x q) (pkXyzf3_y q) (pkXyzf3_z q) (pkXyzf3_f q) (pkXyzf3_adc q)
  | 0xD#4 => .pkXyz3 (pkXyz3_x q) (pkXyz3_y q) (pkXyz3_z q) (pkXyz3_adc q)
  | 0xE#4 => .pkAD (pkAD_addr q) (pkAD_v q)
  | _ => .pkNop

/-! ## General register ids (30_encoding.md R161) -/

/-- The id of a general register. -/
def GReg.id (r : GReg) : BitVec 8 :=
  match r with
  | .prim => 0x00#8
  | .rgbaq => 0x01#8
  | .st => 0x02#8
  | .uv => 0x03#8
  | .xyzf2 => 0x04#8
  | .xyz2 => 0x05#8
  | .tex0_1 => 0x06#8
  | .tex0_2 => 0x07#8
  | .clamp_1 => 0x08#8
  | .clamp_2 => 0x09#8
  | .fog => 0x0A#8
  | .xyzf3 => 0x0C#8
  | .xyz3 => 0x0D#8
  | .tex1_1 => 0x14#8
  | .tex1_2 => 0x15#8
  | .tex2_1 => 0x16#8
  | .tex2_2 => 0x17#8
  | .xyoffset_1 => 0x18#8
  | .xyoffset_2 => 0x19#8
  | .prmodecont => 0x1A#8
  | .prmode => 0x1B#8
  | .texclut => 0x1C#8
  | .scanmsk => 0x22#8
  | .miptbp1_1 => 0x34#8
  | .miptbp1_2 => 0x35#8
  | .miptbp2_1 => 0x36#8
  | .miptbp2_2 => 0x37#8
  | .texa => 0x3B#8
  | .fogcol => 0x3D#8
  | .texflush => 0x3F#8
  | .scissor_1 => 0x40#8
  | .scissor_2 => 0x41#8
  | .alpha_1 => 0x42#8
  | .alpha_2 => 0x43#8
  | .dimx => 0x44#8
  | .dthe => 0x45#8
  | .colclamp => 0x46#8
  | .test_1 => 0x47#8
  | .test_2 => 0x48#8
  | .pabe => 0x49#8
  | .fba_1 => 0x4A#8
  | .fba_2 => 0x4B#8
  | .frame_1 => 0x4C#8
  | .frame_2 => 0x4D#8
  | .zbuf_1 => 0x4E#8
  | .zbuf_2 => 0x4F#8
  | .bitbltbuf => 0x50#8
  | .trxpos => 0x51#8
  | .trxreg => 0x52#8
  | .trxdir => 0x53#8
  | .hwreg => 0x54#8
  | .signal => 0x60#8
  | .finish => 0x61#8
  | .label => 0x62#8

/-- Every general register, in the order of R161. -/
def GReg.all : List GReg :=
  [GReg.prim, GReg.rgbaq, GReg.st, GReg.uv, GReg.xyzf2, GReg.xyz2] ++
  [GReg.tex0_1, GReg.tex0_2, GReg.clamp_1, GReg.clamp_2, GReg.fog, GReg.xyzf3] ++
  [GReg.xyz3, GReg.tex1_1, GReg.tex1_2, GReg.tex2_1, GReg.tex2_2, GReg.xyoffset_1] ++
  [GReg.xyoffset_2, GReg.prmodecont, GReg.prmode, GReg.texclut, GReg.scanmsk, GReg.miptbp1_1] ++
  [GReg.miptbp1_2, GReg.miptbp2_1, GReg.miptbp2_2, GReg.texa, GReg.fogcol, GReg.texflush] ++
  [GReg.scissor_1, GReg.scissor_2, GReg.alpha_1, GReg.alpha_2, GReg.dimx, GReg.dthe] ++
  [GReg.colclamp, GReg.test_1, GReg.test_2, GReg.pabe, GReg.fba_1, GReg.fba_2] ++
  [GReg.frame_1, GReg.frame_2, GReg.zbuf_1, GReg.zbuf_2, GReg.bitbltbuf, GReg.trxpos] ++
  [GReg.trxreg, GReg.trxdir, GReg.hwreg, GReg.signal, GReg.finish, GReg.label]

/-- The register an id names, if any (R161, R162). -/
def GReg.ofId (id : BitVec 8) : Option GReg := GReg.all.find? (fun r => r.id == id)

/-- The instruction that writes `v` to a general register. -/
def GReg.instr (r : GReg) (v : Word64) : Instr :=
  match r with
  | .prim => .prim v
  | .rgbaq => .rgbaq v
  | .st => .st v
  | .uv => .uv v
  | .xyzf2 => .xyzf2 v
  | .xyz2 => .xyz2 v
  | .tex0_1 => .tex0_1 v
  | .tex0_2 => .tex0_2 v
  | .clamp_1 => .clamp_1 v
  | .clamp_2 => .clamp_2 v
  | .fog => .fog v
  | .xyzf3 => .xyzf3 v
  | .xyz3 => .xyz3 v
  | .tex1_1 => .tex1_1 v
  | .tex1_2 => .tex1_2 v
  | .tex2_1 => .tex2_1 v
  | .tex2_2 => .tex2_2 v
  | .xyoffset_1 => .xyoffset_1 v
  | .xyoffset_2 => .xyoffset_2 v
  | .prmodecont => .prmodecont v
  | .prmode => .prmode v
  | .texclut => .texclut v
  | .scanmsk => .scanmsk v
  | .miptbp1_1 => .miptbp1_1 v
  | .miptbp1_2 => .miptbp1_2 v
  | .miptbp2_1 => .miptbp2_1 v
  | .miptbp2_2 => .miptbp2_2 v
  | .texa => .texa v
  | .fogcol => .fogcol v
  | .texflush => .texflush v
  | .scissor_1 => .scissor_1 v
  | .scissor_2 => .scissor_2 v
  | .alpha_1 => .alpha_1 v
  | .alpha_2 => .alpha_2 v
  | .dimx => .dimx v
  | .dthe => .dthe v
  | .colclamp => .colclamp v
  | .test_1 => .test_1 v
  | .test_2 => .test_2 v
  | .pabe => .pabe v
  | .fba_1 => .fba_1 v
  | .fba_2 => .fba_2 v
  | .frame_1 => .frame_1 v
  | .frame_2 => .frame_2 v
  | .zbuf_1 => .zbuf_1 v
  | .zbuf_2 => .zbuf_2 v
  | .bitbltbuf => .bitbltbuf v
  | .trxpos => .trxpos v
  | .trxreg => .trxreg v
  | .trxdir => .trxdir v
  | .hwreg => .hwreg v
  | .signal => .signal v
  | .finish => .finish v
  | .label => .label v

/-- A general register write read from its id (42_general_registers.md R280, R336). -/
def decodeReg (src : Src) (id : BitVec 8) (v : Word64) : Instr :=
  match GReg.ofId id with
  | some r => r.instr v
  | none => .unmappedId src id v

/-! ## REGLIST slots (30_encoding.md R158) -/

/-- A REGLIST slot read under its descriptor (40_gif_decoder.md R218). -/
def decodeSlot (d : BitVec 4) (v : Word64) : Instr :=
  match d with
  | 0x0#4 => .rlPrim v
  | 0x1#4 => .rlRgbaq v
  | 0x2#4 => .rlSt v
  | 0x3#4 => .rlUv v
  | 0x4#4 => .rlXyzf2 v
  | 0x5#4 => .rlXyz2 v
  | 0x6#4 => .rlTex0_1 v
  | 0x7#4 => .rlTex0_2 v
  | 0x8#4 => .rlClamp_1 v
  | 0x9#4 => .rlClamp_2 v
  | 0xA#4 => .rlFog v
  | 0xB#4 => .rlReservedB v
  | 0xC#4 => .rlXyzf3 v
  | 0xD#4 => .rlXyz3 v
  | 0xE#4 => .rlNoneE v
  | _ => .rlNoneF v

/-! ## Privileged addresses (30_encoding.md R170) -/

/-- The base address of a privileged register. -/
def PrivReg.addr (r : PrivReg) : Word32 :=
  match r with
  | .pmode => 0x12000000#32
  | .smode1 => 0x12000010#32
  | .smode2 => 0x12000020#32
  | .srfsh => 0x12000030#32
  | .synch1 => 0x12000040#32
  | .synch2 => 0x12000050#32
  | .syncv => 0x12000060#32
  | .dispfb1 => 0x12000070#32
  | .display1 => 0x12000080#32
  | .dispfb2 => 0x12000090#32
  | .display2 => 0x120000A0#32
  | .extbuf => 0x120000B0#32
  | .extdata => 0x120000C0#32
  | .extwrite => 0x120000D0#32
  | .bgcolor => 0x120000E0#32
  | .csr => 0x12001000#32
  | .imr => 0x12001010#32
  | .busdir => 0x12001040#32
  | .siglblid => 0x12001080#32

/-- Every privileged register, in the order of R170. -/
def PrivReg.all : List PrivReg :=
  [PrivReg.pmode, PrivReg.smode1, PrivReg.smode2, PrivReg.srfsh, PrivReg.synch1] ++
  [PrivReg.synch2, PrivReg.syncv, PrivReg.dispfb1, PrivReg.display1, PrivReg.dispfb2] ++
  [PrivReg.display2, PrivReg.extbuf, PrivReg.extdata, PrivReg.extwrite, PrivReg.bgcolor] ++
  [PrivReg.csr, PrivReg.imr, PrivReg.busdir, PrivReg.siglblid]

/-- `PrivDecode` (45_privileged_registers.md R430): a base address is the low half, base + 4 the
high half, anything else nothing. -/
def privDecode (addr : Word32) : Option (PrivReg × Part) :=
  match PrivReg.all.find? (fun r => r.addr == addr) with
  | some r => some (r, .low)
  | none =>
    match PrivReg.all.find? (fun r => r.addr + 4#32 == addr) with
    | some r => some (r, .high)
    | none => none

/-- The instruction that makes an access to a privileged register. -/
def PrivReg.instr (r : PrivReg) (acc : PrivAccess) : Instr :=
  match r with
  | .pmode => .privPmode acc
  | .smode1 => .privSmode1 acc
  | .smode2 => .privSmode2 acc
  | .srfsh => .privSrfsh acc
  | .synch1 => .privSynch1 acc
  | .synch2 => .privSynch2 acc
  | .syncv => .privSyncv acc
  | .dispfb1 => .privDispfb1 acc
  | .display1 => .privDisplay1 acc
  | .dispfb2 => .privDispfb2 acc
  | .display2 => .privDisplay2 acc
  | .extbuf => .privExtbuf acc
  | .extdata => .privExtdata acc
  | .extwrite => .privExtwrite acc
  | .bgcolor => .privBgcolor acc
  | .csr => .privCsr acc
  | .imr => .privImr acc
  | .busdir => .privBusdir acc
  | .siglblid => .privSiglblid acc

/-- A privileged access read from its address (45_privileged_registers.md R431): `write64` reaches
a register only at its base; `write32` and `read32` reach either half. A `write32` takes the low
32 bits of the operand. -/
def decodePriv (op : HostOp) (addr : Word32) (v : Word64) : Instr :=
  match op, privDecode addr with
  | .w64, some (r, .low) => r.instr (.write64 v)
  | .w64, some (_, .high) => .privUnmapped .w64 addr
  | .w32, some (r, p) => r.instr (.write32 p (v.setWidth 32))
  | .r32, some (r, p) => r.instr (.read32 p)
  | op, none => .privUnmapped op addr

/-- The instruction a host call is (00_scope.md R7). -/
def Call.instr (c : Call) : Instr :=
  match c with
  | .feedGif q => .hostFeedGif q
  | .sendPath3 q => .hostSendPath3 q
  | .endOfStream path => .hostEndOfStream path
  | .write64 addr v => .hostWrite64 addr v
  | .write32 addr v => .hostWrite32 addr v
  | .read32 addr => .hostRead32 addr
  | .readHwreg => .hostReadHwreg
  | .videoEvent kind => .hostVideoEvent kind
  | .reset => .hostReset
  | .getDisplayResolution => .hostGetDisplayResolution
  | .getInternalResolution => .hostGetInternalResolution
  | .getFramebuffer => .hostGetFramebuffer

/-- A `write64` below 0x100 is a general register write, any other a privileged access
(45_privileged_registers.md R432). -/
def decodeWrite64 (addr : Word32) (v : Word64) : Instr :=
  if addr.toNat ≤ 0xFF then decodeReg .host (addr.setWidth 8) v else decodePriv .w64 addr v

/-! ## The whole decoder and the encoder -/

/-- Bits with the context in which the block reads them: a tag word, a payload word under a
descriptor, a register write by id, an access by address, or a host call. -/
inductive Code where
  | tag (path : Path) (q : Qword)
  | packed (d : BitVec 4) (q : Qword)
  | slot (d : BitVec 4) (v : Word64)
  | image (q : Qword)
  | reg (src : Src) (id : BitVec 8) (v : Word64)
  | priv (op : HostOp) (addr : Word32) (v : Word64)
  | call (c : Call)
deriving DecidableEq, Repr

/-- The instruction some bits in their context are. -/
def decode (nb : NloopBits) (c : Code) : Instr :=
  match c with
  | .tag path q => decodeTag nb path q
  | .packed d q => decodePacked d q
  | .slot d v => decodeSlot d v
  | .image q => .imageQword q
  | .reg src id v => decodeReg src id v
  | .priv op addr v => decodePriv op addr v
  | .call c => c.instr

/-- The bits of a privileged access. -/
def encodePriv (r : PrivReg) (acc : PrivAccess) : Code :=
  match acc with
  | .write64 v => .priv .w64 r.addr v
  | .write32 .low v => .priv .w32 r.addr (v.setWidth 64)
  | .write32 .high v => .priv .w32 (r.addr + 4#32) (v.setWidth 64)
  | .read32 .low => .priv .r32 r.addr 0#64
  | .read32 .high => .priv .r32 (r.addr + 4#32) 0#64

/-- The bits of an instruction and the context they are read in, bits that name no field 0. A
general register write is encoded as the A+D write it is the same as (40_gif_decoder.md R219). -/
def encode (i : Instr) : Code :=
  match i with
  | .giftagPacked path t => .tag path (encodeTag 0#2 t)
  | .giftagReglist path t => .tag path (encodeTag 1#2 t)
  | .giftagImage path t => .tag path (encodeTag 2#2 t)
  | .giftagFlg3 path t => .tag path (encodeTag 3#2 t)
  | .pkPrim prim => .packed 0x0#4 (place 0 prim)
  | .pkRgbaq r g b a => .packed 0x1#4 (place 0 r ||| place 32 g ||| place 64 b ||| place 96 a)
  | .pkSt sc tc qc => .packed 0x2#4 (place 0 sc ||| place 32 tc ||| place 64 qc)
  | .pkUv uc vc => .packed 0x3#4 (place 0 uc ||| place 32 vc)
  | .pkXyzf2 x y z f adc => .packed 0x4#4 (place 0 x ||| place 32 y ||| place 68 z ||| place 100 f ||| place 111 (flagBit adc))
  | .pkXyz2 x y z adc => .packed 0x5#4 (place 0 x ||| place 32 y ||| place 64 z ||| place 111 (flagBit adc))
  | .pkTex0_1 v => .packed 0x6#4 (place 0 v)
  | .pkTex0_2 v => .packed 0x7#4 (place 0 v)
  | .pkClamp_1 v => .packed 0x8#4 (place 0 v)
  | .pkClamp_2 v => .packed 0x9#4 (place 0 v)
  | .pkFog f => .packed 0xA#4 (place 100 f)
  | .pkReservedB => .packed 0xB#4 (0#128)
  | .pkXyzf3 x y z f adc => .packed 0xC#4 (place 0 x ||| place 32 y ||| place 68 z ||| place 100 f ||| place 111 (flagBit adc))
  | .pkXyz3 x y z adc => .packed 0xD#4 (place 0 x ||| place 32 y ||| place 64 z ||| place 111 (flagBit adc))
  | .pkAD addr v => .packed 0xE#4 (place 64 addr ||| place 0 v)
  | .pkNop => .packed 0xF#4 (0#128)
  | .prim v => .reg .ad GReg.prim.id v
  | .rgbaq v => .reg .ad GReg.rgbaq.id v
  | .st v => .reg .ad GReg.st.id v
  | .uv v => .reg .ad GReg.uv.id v
  | .xyzf2 v => .reg .ad GReg.xyzf2.id v
  | .xyz2 v => .reg .ad GReg.xyz2.id v
  | .tex0_1 v => .reg .ad GReg.tex0_1.id v
  | .tex0_2 v => .reg .ad GReg.tex0_2.id v
  | .clamp_1 v => .reg .ad GReg.clamp_1.id v
  | .clamp_2 v => .reg .ad GReg.clamp_2.id v
  | .fog v => .reg .ad GReg.fog.id v
  | .xyzf3 v => .reg .ad GReg.xyzf3.id v
  | .xyz3 v => .reg .ad GReg.xyz3.id v
  | .tex1_1 v => .reg .ad GReg.tex1_1.id v
  | .tex1_2 v => .reg .ad GReg.tex1_2.id v
  | .tex2_1 v => .reg .ad GReg.tex2_1.id v
  | .tex2_2 v => .reg .ad GReg.tex2_2.id v
  | .xyoffset_1 v => .reg .ad GReg.xyoffset_1.id v
  | .xyoffset_2 v => .reg .ad GReg.xyoffset_2.id v
  | .prmodecont v => .reg .ad GReg.prmodecont.id v
  | .prmode v => .reg .ad GReg.prmode.id v
  | .texclut v => .reg .ad GReg.texclut.id v
  | .scanmsk v => .reg .ad GReg.scanmsk.id v
  | .miptbp1_1 v => .reg .ad GReg.miptbp1_1.id v
  | .miptbp1_2 v => .reg .ad GReg.miptbp1_2.id v
  | .miptbp2_1 v => .reg .ad GReg.miptbp2_1.id v
  | .miptbp2_2 v => .reg .ad GReg.miptbp2_2.id v
  | .texa v => .reg .ad GReg.texa.id v
  | .fogcol v => .reg .ad GReg.fogcol.id v
  | .texflush v => .reg .ad GReg.texflush.id v
  | .scissor_1 v => .reg .ad GReg.scissor_1.id v
  | .scissor_2 v => .reg .ad GReg.scissor_2.id v
  | .alpha_1 v => .reg .ad GReg.alpha_1.id v
  | .alpha_2 v => .reg .ad GReg.alpha_2.id v
  | .dimx v => .reg .ad GReg.dimx.id v
  | .dthe v => .reg .ad GReg.dthe.id v
  | .colclamp v => .reg .ad GReg.colclamp.id v
  | .test_1 v => .reg .ad GReg.test_1.id v
  | .test_2 v => .reg .ad GReg.test_2.id v
  | .pabe v => .reg .ad GReg.pabe.id v
  | .fba_1 v => .reg .ad GReg.fba_1.id v
  | .fba_2 v => .reg .ad GReg.fba_2.id v
  | .frame_1 v => .reg .ad GReg.frame_1.id v
  | .frame_2 v => .reg .ad GReg.frame_2.id v
  | .zbuf_1 v => .reg .ad GReg.zbuf_1.id v
  | .zbuf_2 v => .reg .ad GReg.zbuf_2.id v
  | .bitbltbuf v => .reg .ad GReg.bitbltbuf.id v
  | .trxpos v => .reg .ad GReg.trxpos.id v
  | .trxreg v => .reg .ad GReg.trxreg.id v
  | .trxdir v => .reg .ad GReg.trxdir.id v
  | .hwreg v => .reg .ad GReg.hwreg.id v
  | .signal v => .reg .ad GReg.signal.id v
  | .finish v => .reg .ad GReg.finish.id v
  | .label v => .reg .ad GReg.label.id v
  | .unmappedId src id v => .reg src id v
  | .rlPrim v => .slot 0x0#4 v
  | .rlRgbaq v => .slot 0x1#4 v
  | .rlSt v => .slot 0x2#4 v
  | .rlUv v => .slot 0x3#4 v
  | .rlXyzf2 v => .slot 0x4#4 v
  | .rlXyz2 v => .slot 0x5#4 v
  | .rlTex0_1 v => .slot 0x6#4 v
  | .rlTex0_2 v => .slot 0x7#4 v
  | .rlClamp_1 v => .slot 0x8#4 v
  | .rlClamp_2 v => .slot 0x9#4 v
  | .rlFog v => .slot 0xA#4 v
  | .rlReservedB v => .slot 0xB#4 v
  | .rlXyzf3 v => .slot 0xC#4 v
  | .rlXyz3 v => .slot 0xD#4 v
  | .rlNoneE v => .slot 0xE#4 v
  | .rlNoneF v => .slot 0xF#4 v
  | .imageQword q => .image q
  | .privPmode acc => encodePriv .pmode acc
  | .privSmode1 acc => encodePriv .smode1 acc
  | .privSmode2 acc => encodePriv .smode2 acc
  | .privSrfsh acc => encodePriv .srfsh acc
  | .privSynch1 acc => encodePriv .synch1 acc
  | .privSynch2 acc => encodePriv .synch2 acc
  | .privSyncv acc => encodePriv .syncv acc
  | .privDispfb1 acc => encodePriv .dispfb1 acc
  | .privDisplay1 acc => encodePriv .display1 acc
  | .privDispfb2 acc => encodePriv .dispfb2 acc
  | .privDisplay2 acc => encodePriv .display2 acc
  | .privExtbuf acc => encodePriv .extbuf acc
  | .privExtdata acc => encodePriv .extdata acc
  | .privExtwrite acc => encodePriv .extwrite acc
  | .privBgcolor acc => encodePriv .bgcolor acc
  | .privCsr acc => encodePriv .csr acc
  | .privImr acc => encodePriv .imr acc
  | .privBusdir acc => encodePriv .busdir acc
  | .privSiglblid acc => encodePriv .siglblid acc
  | .privUnmapped op addr => .priv op addr 0#64
  | .hostFeedGif q => .call (.feedGif q)
  | .hostSendPath3 q => .call (.sendPath3 q)
  | .hostEndOfStream path => .call (.endOfStream path)
  | .hostWrite64 addr v => .call (.write64 addr v)
  | .hostWrite32 addr v => .call (.write32 addr v)
  | .hostRead32 addr => .call (.read32 addr)
  | .hostReadHwreg => .call .readHwreg
  | .hostVideoEvent kind => .call (.videoEvent kind)
  | .hostReset => .call .reset
  | .hostGetDisplayResolution => .call .getDisplayResolution
  | .hostGetInternalResolution => .call .getInternalResolution
  | .hostGetFramebuffer => .call .getFramebuffer

/-! ## The opcode table's own words

spec/opcode_table.json numbers a tag by its 128 bits, a general register by its 8-bit id, a PACKED
or REGLIST row by its 4-bit descriptor and a privileged register by its 32-bit address; a host call
has a name and no bits. Log entry 9 says how one number is read where two families share it. -/

/-- Why a table word is not read. -/
inductive TableRefusal where
  /-- No row of the table has this many bits. -/
  | noSuchWidth (nbits : Nat)
  /-- The number does not fit in the given bits. -/
  | tooWide (nbits w : Nat)
deriving DecidableEq, Repr

/-- The code a table word stands for: 128 bits a tag on path FEED; 32 bits a `read32` of an
address; 8 bits the write of 0 to the general register of that id, or, for the three values below
16 that are no register's id, the PACKED descriptor; 4 bits a PACKED descriptor. -/
def tableCode (nbits w : Nat) : Except TableRefusal Code :=
  if 2 ^ nbits ≤ w then .error (.tooWide nbits w)
  else if nbits = 128 then .ok (.tag .feed (BitVec.ofNat 128 w))
  else if nbits = 32 then .ok (.priv .r32 (BitVec.ofNat 32 w) 0#64)
  else if nbits = 8 then
    if (GReg.ofId (BitVec.ofNat 8 w)).isNone && w < 16 then .ok (.packed (BitVec.ofNat 4 w) 0#128)
    else .ok (.reg .host (BitVec.ofNat 8 w) 0#64)
  else if nbits = 4 then .ok (.packed (BitVec.ofNat 4 w) 0#128)
  else .error (.noSuchWidth nbits)

/-- The instruction of a table word, under the default width of NLOOP; none where `tableCode`
refuses it. -/
def decodeTableWord (nbits w : Nat) : Option Instr :=
  match tableCode nbits w with
  | .ok c => some (decode Config.defaults.nloopBits c)
  | .error _ => none

end Sys2Proof
end

