-- ==== Sys2Proof/Machine/State.lean ====
section
/-! DEFINITION. The state of the block (10_state.md R20 to R53), the records of its outputs, the
reasons a step can stop, and the state right after reset. -/

namespace Sys2Proof.Machine

/-! ## Decoder (10_state.md R22) -/

/-- `dec_state`. -/
inductive DecState where
  | awaitingTag
  | processing
deriving DecidableEq, Repr

/-- The fields of the current tag, as decoded. -/
structure Tag where
  nloop : BitVec 15
  eop   : Bool
  pre   : Bool
  prim  : BitVec 11
  flg   : BitVec 2
  nreg  : BitVec 4
  regs  : BitVec 64
deriving DecidableEq, Repr

/-- The decoder's state (10_state.md R22). -/
structure Decoder where
  decState   : DecState
  packetOpen : Bool
  packetPath : Path
  tag        : Tag
  regCount   : Nat
  regsLeft   : Nat
  dataLeft   : Nat
  packedQ    : BitVec 32
deriving DecidableEq, Repr

/-! ## Transfer engine (10_state.md R45) -/

/-- The direction of a latched transfer: XDIR 0, 1 or 2 (44_transfer_engine.md R380). -/
inductive XferDir where
  | hostToLocal
  | localToHost
  | localToLocal
deriving DecidableEq, Repr

/-- The transfer engine's state: `xfer_*`, `transfer_*`, `pixels_transferred`, `stream_*`. -/
structure Xfer where
  active   : Bool
  dir      : XferDir
  buf      : Word64
  pos      : Word64
  reg      : Word64
  total    : Nat
  bitDepth : Nat
  pixels   : Nat
  addr     : Nat
  streamBits : Nat
  streamN    : Nat
deriving DecidableEq, Repr

/-! ## Privileged registers (10_state.md R47 to R52) -/

/-- The privileged registers with storage and the seven flags of CSR (10_state.md R51). -/
structure PrivRegs where
  pmode : Word64
  smode1 : Word64
  smode2 : Word64
  srfsh : Word64
  synch1 : Word64
  synch2 : Word64
  syncv : Word64
  dispfb1 : Word64
  display1 : Word64
  dispfb2 : Word64
  display2 : Word64
  extbuf : Word64
  extdata : Word64
  extwrite : Word64
  bgcolor : Word64
  imr : Word64
  busdir : Word64
  siglblid : Word64
  csrSignal : Bool
  csrFinish : Bool
  csrHsint : Bool
  csrVsint : Bool
  csrEdwint : Bool
  csrField : Bool
  csrNfield : Bool
deriving DecidableEq, Repr

/-! ## Outputs of a host call -/

/-- What an E_UNMODELLED refuses (60_exceptions.md R465). -/
inductive Unmodelled where
  | psm (code : BitVec 6)
  | depths (source destination : Nat)
  | oddWidth (bw : Nat)
  | signalPending
deriving DecidableEq, Repr

/-- Which way an HWREG access went (60_exceptions.md R464). -/
inductive HwregOp where
  | write
  | read
deriving DecidableEq, Repr

/-- The error records, each with the information its rule names (60_exceptions.md R460 to R468). An
error is an output; the call goes on (R472). -/
inductive Err where
  /-- E_TRUNCATED inside a payload, with `data_left` (40_gif_decoder.md R216). -/
  | truncatedPayload (dataLeft : Nat)
  /-- E_TRUNCATED after a tag with EOP = 0 (40_gif_decoder.md R216). -/
  | truncatedNoEop
  /-- E_PATH_INTERLEAVE (40_gif_decoder.md R202). -/
  | pathInterleave (arriving openPath : Path)
  /-- E_HWREG_INACTIVE (44_transfer_engine.md R396). -/
  | hwregInactive (op : HwregOp)
  /-- E_PRIM_RESERVED, with the PRIM value (43_primitive_assembler.md R363). -/
  | primReserved (prim : Word64)
  /-- E_UNKNOWN_REG of a general register id (42_general_registers.md R336). -/
  | unknownReg (src : Src) (id : BitVec 8)
  /-- E_UNKNOWN_REG of a host access by address (45_privileged_registers.md R431). -/
  | unknownAddr (op : HostOp) (addr : Word32)
  /-- E_UNMODELLED (60_exceptions.md R465). -/
  | unmodelled (what : Unmodelled)
  /-- E_BOUNDS (20_memory.md R120). -/
  | bounds (psm : BitVec 6) (x y word : Nat)
deriving DecidableEq, Repr

/-- The result value of a host call, where it has one. -/
inductive Result where
  /-- The call has no result. -/
  | none
  /-- `read32` of an unmapped address: no value (45_privileged_registers.md R434). -/
  | noValue
  /-- `read32`. -/
  | word32 (v : Word32)
  /-- `read_HWREG`. -/
  | word64 (v : Word64)
  /-- A resolution accessor: width and height (45_privileged_registers.md R456). -/
  | size (w h : Nat)
  /-- `get_framebuffer`: width, height, PSM and the pixels row by row
  (45_privileged_registers.md R457). -/
  | frame (w h : Nat) (psm : BitVec 5) (pixels : List Word32)
deriving DecidableEq, Repr

/-- The outputs of one host call: its report in the order raised (60_exceptions.md R460), its draw
events in the order emitted (43_primitive_assembler.md R353), its result. -/
structure CallOut where
  report : List Err
  draws  : List DrawEvent
  result : Result
deriving DecidableEq, Repr

/-- No error, no draw, no result. -/
def CallOut.empty : CallOut := { report := [], draws := [], result := .none }

/-! ## The state -/

/-- The state of the block: the tuple of 10_state.md R20 (`dec`, `reg`, `vq`, `xfer`, `priv`,
`vram`), and four fields of the model: the construction parameters (log entry 2), the host calls
not yet performed (log entry 1), the outputs of the last call (log entry 4), and the mark of a run
that reached an unmodelled case (60_exceptions.md R465, log entry 5). -/
structure State where
  cfg   : Params
  dec   : Decoder
  reg   : RegFile
  vq    : List Vertex
  xfer  : Xfer
  priv  : PrivRegs
  vram  : Memory
  inbox : List Call
  out   : CallOut
  unmodelled : Bool
deriving DecidableEq, Repr

/-- Why a step would stop with a fault. The block has no traps and no stops: every host call is
accepted and completes, with its errors in the report (60_exceptions.md R472, 70_reset_and_hazards.md
R495), so there is no fault. -/
inductive Fault where
deriving DecidableEq, Repr

/-- Why a step would be refused. -/
inductive Refusal where
  /-- The instruction has no meaning in this model: raised by an arm of `exec` for a row that is not
  modelled. Safe: the run stops. No arm raises it. -/
  | notModelled (mnemonic : String)
deriving DecidableEq, Repr

/-- The three outcomes of a step of this machine. -/
abbrev Outcome := Host.Outcome State Fault Refusal

/-! ## Reset (70_reset_and_hazards.md R490) -/

/-- The decoder after reset. -/
def Decoder.reset : Decoder where
  decState := .awaitingTag
  packetOpen := false
  packetPath := .feed
  tag := { nloop := 0, eop := false, pre := false, prim := 0, flg := 0, nreg := 0, regs := 0 }
  regCount := 16
  regsLeft := 0
  dataLeft := 0
  packedQ := 0x3F800000#32

/-- Both copies of a paired register after reset. -/
def Pair.reset : Pair := { c1 := 0, c2 := 0 }

/-- The general register file after reset: all 0 but PRMODECONT and TRXDIR. -/
def RegFile.reset : RegFile where
  prim := 0
  rgbaq := 0
  st := 0
  uv := 0
  xyzf2 := 0
  xyz2 := 0
  xyzf3 := 0
  xyz3 := 0
  fog := 0
  prmodecont := 0x1#64
  prmode := 0
  texclut := 0
  scanmsk := 0
  texa := 0
  fogcol := 0
  dimx := 0
  dthe := 0
  colclamp := 0
  pabe := 0
  bitbltbuf := 0
  trxpos := 0
  trxreg := 0
  trxdir := 0x3#64
  tex0 := Pair.reset
  clamp := Pair.reset
  tex1 := Pair.reset
  xyoffset := Pair.reset
  miptbp1 := Pair.reset
  miptbp2 := Pair.reset
  scissor := Pair.reset
  alpha := Pair.reset
  test := Pair.reset
  fba := Pair.reset
  frame := Pair.reset
  zbuf := Pair.reset

/-- The transfer engine after reset. -/
def Xfer.reset : Xfer where
  active := false
  dir := .hostToLocal
  buf := 0
  pos := 0
  reg := 0
  total := 0
  bitDepth := 0
  pixels := 0
  addr := 0
  streamBits := 0
  streamN := 0

/-- The privileged registers after reset: all 0 but IMR. -/
def PrivRegs.reset : PrivRegs where
  pmode := 0
  smode1 := 0
  smode2 := 0
  srfsh := 0
  synch1 := 0
  synch2 := 0
  syncv := 0
  dispfb1 := 0
  display1 := 0
  dispfb2 := 0
  display2 := 0
  extbuf := 0
  extdata := 0
  extwrite := 0
  bgcolor := 0
  imr := 0x7F00#64
  busdir := 0
  siglblid := 0
  csrSignal := false
  csrFinish := false
  csrHsint := false
  csrVsint := false
  csrEdwint := false
  csrField := false
  csrNfield := false

/-- The state right after construction with the default parameters (70_reset_and_hazards.md R491):
every element at its value of R490, no host call made yet, nothing reported. -/
def State.reset : State where
  cfg := Config.defaults
  dec := Decoder.reset
  reg := RegFile.reset
  vq := []
  xfer := Xfer.reset
  priv := PrivRegs.reset
  vram := []
  inbox := []
  out := CallOut.empty
  unmodelled := false

end Sys2Proof.Machine
end

