-- ==== Sys2Proof/Machine/Swizzle.lean ====
section
/-! DEFINITION. Pixel storage modes and the swizzle: which VRAM word and which of its bits a pixel
is (20_memory.md R104 to R114). The tables are those of R106 and R107. -/

namespace Sys2Proof.Machine

/-! ## Pixel storage modes (20_memory.md R104) -/

/-- The thirteen pixel storage modes. -/
inductive Psm where
  | ct32
  | ct24
  | ct16
  | ct16s
  | t8
  | t4
  | t8h
  | t4hl
  | t4hh
  | z32
  | z24
  | z16
  | z16s
deriving DecidableEq, Repr

/-- The mode of a 6-bit code; none for an invalid PSM. -/
def psmOf (code : BitVec 6) : Option Psm :=
  match code.toNat with
  | 0x00 => some .ct32
  | 0x01 => some .ct24
  | 0x02 => some .ct16
  | 0x0A => some .ct16s
  | 0x13 => some .t8
  | 0x14 => some .t4
  | 0x1B => some .t8h
  | 0x24 => some .t4hl
  | 0x2C => some .t4hh
  | 0x30 => some .z32
  | 0x31 => some .z24
  | 0x32 => some .z16
  | 0x3A => some .z16s
  | _ => none

/-- Bits per pixel. -/
def bppOf (p : Psm) : Nat :=
  match p with
  | .ct32 => 32
  | .ct24 => 24
  | .ct16 => 16
  | .ct16s => 16
  | .t8 => 8
  | .t4 => 4
  | .t8h => 8
  | .t4hl => 4
  | .t4hh => 4
  | .z32 => 32
  | .z24 => 24
  | .z16 => 16
  | .z16s => 16

/-! ## Block tables (20_memory.md R106) -/

/-- BT32 of R106 -/
def tBT32 : List (List Nat) :=
  [[0, 1, 4, 5, 16, 17, 20, 21],
   [2, 3, 6, 7, 18, 19, 22, 23],
   [8, 9, 12, 13, 24, 25, 28, 29],
   [10, 11, 14, 15, 26, 27, 30, 31]]

/-- BTZ32 of R106 -/
def tBTZ32 : List (List Nat) :=
  [[24, 25, 28, 29, 8, 9, 12, 13],
   [26, 27, 30, 31, 10, 11, 14, 15],
   [16, 17, 20, 21, 0, 1, 4, 5],
   [18, 19, 22, 23, 2, 3, 6, 7]]

/-- BT16 of R106 -/
def tBT16 : List (List Nat) :=
  [[0, 2, 8, 10],
   [1, 3, 9, 11],
   [4, 6, 12, 14],
   [5, 7, 13, 15],
   [16, 18, 24, 26],
   [17, 19, 25, 27],
   [20, 22, 28, 30],
   [21, 23, 29, 31]]

/-- BT16S of R106 -/
def tBT16S : List (List Nat) :=
  [[0, 2, 16, 18],
   [1, 3, 17, 19],
   [8, 10, 24, 26],
   [9, 11, 25, 27],
   [4, 6, 20, 22],
   [5, 7, 21, 23],
   [12, 14, 28, 30],
   [13, 15, 29, 31]]

/-- BTZ16 of R106 -/
def tBTZ16 : List (List Nat) :=
  [[24, 26, 16, 18],
   [25, 27, 17, 19],
   [28, 30, 20, 22],
   [29, 31, 21, 23],
   [8, 10, 0, 2],
   [9, 11, 1, 3],
   [12, 14, 4, 6],
   [13, 15, 5, 7]]

/-- BTZ16S of R106 -/
def tBTZ16S : List (List Nat) :=
  [[24, 26, 8, 10],
   [25, 27, 9, 11],
   [16, 18, 0, 2],
   [17, 19, 1, 3],
   [28, 30, 12, 14],
   [29, 31, 13, 15],
   [20, 22, 4, 6],
   [21, 23, 5, 7]]

/-- BT8 of R106 -/
def tBT8 : List (List Nat) :=
  [[0, 1, 4, 5, 16, 17, 20, 21],
   [2, 3, 6, 7, 18, 19, 22, 23],
   [8, 9, 12, 13, 24, 25, 28, 29],
   [10, 11, 14, 15, 26, 27, 30, 31]]

/-- BT4 of R106 -/
def tBT4 : List (List Nat) :=
  [[0, 2, 8, 10],
   [1, 3, 9, 11],
   [4, 6, 12, 14],
   [5, 7, 13, 15],
   [16, 18, 24, 26],
   [17, 19, 25, 27],
   [20, 22, 28, 30],
   [21, 23, 29, 31]]

/-! ## Column tables (20_memory.md R107) -/

/-- CT32 of R107 -/
def tCT32 : List (List Nat) :=
  [[0, 1, 4, 5, 8, 9, 12, 13],
   [2, 3, 6, 7, 10, 11, 14, 15],
   [16, 17, 20, 21, 24, 25, 28, 29],
   [18, 19, 22, 23, 26, 27, 30, 31],
   [32, 33, 36, 37, 40, 41, 44, 45],
   [34, 35, 38, 39, 42, 43, 46, 47],
   [48, 49, 52, 53, 56, 57, 60, 61],
   [50, 51, 54, 55, 58, 59, 62, 63]]

/-- CT16 of R107 -/
def tCT16 : List (List Nat) :=
  [[0, 2, 8, 10, 16, 18, 24, 26, 1, 3, 9, 11, 17, 19, 25, 27],
   [4, 6, 12, 14, 20, 22, 28, 30, 5, 7, 13, 15, 21, 23, 29, 31],
   [32, 34, 40, 42, 48, 50, 56, 58, 33, 35, 41, 43, 49, 51, 57, 59],
   [36, 38, 44, 46, 52, 54, 60, 62, 37, 39, 45, 47, 53, 55, 61, 63],
   [64, 66, 72, 74, 80, 82, 88, 90, 65, 67, 73, 75, 81, 83, 89, 91],
   [68, 70, 76, 78, 84, 86, 92, 94, 69, 71, 77, 79, 85, 87, 93, 95],
   [96, 98, 104, 106, 112, 114, 120, 122, 97, 99, 105, 107, 113, 115, 121, 123],
   [100, 102, 108, 110, 116, 118, 124, 126, 101, 103, 109, 111, 117, 119, 125, 127]]

/-- CT8 of R107, first half of the rows. -/
def tCT8Upper : List (List Nat) :=
  [[0, 4, 16, 20, 32, 36, 48, 52, 2, 6, 18, 22, 34, 38, 50, 54],
   [8, 12, 24, 28, 40, 44, 56, 60, 10, 14, 26, 30, 42, 46, 58, 62],
   [33, 37, 1, 5, 49, 53, 17, 21, 35, 39, 3, 7, 51, 55, 19, 23],
   [41, 45, 9, 13, 57, 61, 25, 29, 43, 47, 11, 15, 59, 63, 27, 31],
   [96, 100, 112, 116, 64, 68, 80, 84, 98, 102, 114, 118, 66, 70, 82, 86],
   [104, 108, 120, 124, 72, 76, 88, 92, 106, 110, 122, 126, 74, 78, 90, 94],
   [65, 69, 81, 85, 97, 101, 113, 117, 67, 71, 83, 87, 99, 103, 115, 119],
   [73, 77, 89, 93, 105, 109, 121, 125, 75, 79, 91, 95, 107, 111, 123, 127]]

/-- CT8 of R107, second half of the rows. -/
def tCT8Lower : List (List Nat) :=
  [[128, 132, 144, 148, 160, 164, 176, 180, 130, 134, 146, 150, 162, 166, 178, 182],
   [136, 140, 152, 156, 168, 172, 184, 188, 138, 142, 154, 158, 170, 174, 186, 190],
   [161, 165, 129, 133, 177, 181, 145, 149, 163, 167, 131, 135, 179, 183, 147, 151],
   [169, 173, 137, 141, 185, 189, 153, 157, 171, 175, 139, 143, 187, 191, 155, 159],
   [224, 228, 240, 244, 192, 196, 208, 212, 226, 230, 242, 246, 194, 198, 210, 214],
   [232, 236, 248, 252, 200, 204, 216, 220, 234, 238, 250, 254, 202, 206, 218, 222],
   [193, 197, 209, 213, 225, 229, 241, 245, 195, 199, 211, 215, 227, 231, 243, 247],
   [201, 205, 217, 221, 233, 237, 249, 253, 203, 207, 219, 223, 235, 239, 251, 255]]

/-- CT8 of R107. -/
def tCT8 : List (List Nat) := tCT8Upper ++ tCT8Lower

/-- CT4 of R107, first half of the rows. -/
def tCT4Upper : List (List Nat) :=
  [[0, 8, 32, 40, 64, 72, 96, 104, 2, 10, 34, 42, 66, 74, 98, 106,
    4, 12, 36, 44, 68, 76, 100, 108, 6, 14, 38, 46, 70, 78, 102, 110],
   [16, 24, 48, 56, 80, 88, 112, 120, 18, 26, 50, 58, 82, 90, 114, 122,
    20, 28, 52, 60, 84, 92, 116, 124, 22, 30, 54, 62, 86, 94, 118, 126],
   [65, 73, 97, 105, 1, 9, 33, 41, 67, 75, 99, 107, 3, 11, 35, 43,
    69, 77, 101, 109, 5, 13, 37, 45, 71, 79, 103, 111, 7, 15, 39, 47],
   [81, 89, 113, 121, 17, 25, 49, 57, 83, 91, 115, 123, 19, 27, 51, 59,
    85, 93, 117, 125, 21, 29, 53, 61, 87, 95, 119, 127, 23, 31, 55, 63],
   [192, 200, 224, 232, 128, 136, 160, 168, 194, 202, 226, 234, 130, 138, 162, 170,
    196, 204, 228, 236, 132, 140, 164, 172, 198, 206, 230, 238, 134, 142, 166, 174],
   [208, 216, 240, 248, 144, 152, 176, 184, 210, 218, 242, 250, 146, 154, 178, 186,
    212, 220, 244, 252, 148, 156, 180, 188, 214, 222, 246, 254, 150, 158, 182, 190],
   [129, 137, 161, 169, 193, 201, 225, 233, 131, 139, 163, 171, 195, 203, 227, 235,
    133, 141, 165, 173, 197, 205, 229, 237, 135, 143, 167, 175, 199, 207, 231, 239],
   [145, 153, 177, 185, 209, 217, 241, 249, 147, 155, 179, 187, 211, 219, 243, 251,
    149, 157, 181, 189, 213, 221, 245, 253, 151, 159, 183, 191, 215, 223, 247, 255]]

/-- CT4 of R107, second half of the rows. -/
def tCT4Lower : List (List Nat) :=
  [[256, 264, 288, 296, 320, 328, 352, 360, 258, 266, 290, 298, 322, 330, 354, 362,
    260, 268, 292, 300, 324, 332, 356, 364, 262, 270, 294, 302, 326, 334, 358, 366],
   [272, 280, 304, 312, 336, 344, 368, 376, 274, 282, 306, 314, 338, 346, 370, 378,
    276, 284, 308, 316, 340, 348, 372, 380, 278, 286, 310, 318, 342, 350, 374, 382],
   [321, 329, 353, 361, 257, 265, 289, 297, 323, 331, 355, 363, 259, 267, 291, 299,
    325, 333, 357, 365, 261, 269, 293, 301, 327, 335, 359, 367, 263, 271, 295, 303],
   [337, 345, 369, 377, 273, 281, 305, 313, 339, 347, 371, 379, 275, 283, 307, 315,
    341, 349, 373, 381, 277, 285, 309, 317, 343, 351, 375, 383, 279, 287, 311, 319],
   [448, 456, 480, 488, 384, 392, 416, 424, 450, 458, 482, 490, 386, 394, 418, 426,
    452, 460, 484, 492, 388, 396, 420, 428, 454, 462, 486, 494, 390, 398, 422, 430],
   [464, 472, 496, 504, 400, 408, 432, 440, 466, 474, 498, 506, 402, 410, 434, 442,
    468, 476, 500, 508, 404, 412, 436, 444, 470, 478, 502, 510, 406, 414, 438, 446],
   [385, 393, 417, 425, 449, 457, 481, 489, 387, 395, 419, 427, 451, 459, 483, 491,
    389, 397, 421, 429, 453, 461, 485, 493, 391, 399, 423, 431, 455, 463, 487, 495],
   [401, 409, 433, 441, 465, 473, 497, 505, 403, 411, 435, 443, 467, 475, 499, 507,
    405, 413, 437, 445, 469, 477, 501, 509, 407, 415, 439, 447, 471, 479, 503, 511]]

/-- CT4 of R107. -/
def tCT4 : List (List Nat) := tCT4Upper ++ tCT4Lower

/-- The entry of a table at a row and a column. -/
def tableAt (t : List (List Nat)) (row col : Nat) : Nat := (t.getD row []).getD col 0

/-! ## Address functions (20_memory.md R110 to R114) -/

/-- The word address of a pixel of the C32 and Z32 families (R110). -/
def addr32 (bt : List (List Nat)) (bp bw x y : Nat) : Nat :=
  let page := x / 64 + y / 32 * bw
  let block := bp + 32 * page + tableAt bt (y / 8 % 4) (x / 8 % 8)
  64 * block + tableAt tCT32 (y % 8) (x % 8)

/-- The word address and halfword lane of a pixel of the 16-bit families (R111). -/
def addr16 (bt : List (List Nat)) (bp bw x y : Nat) : Nat × Nat :=
  let page := x / 64 + y / 64 * bw
  let block := bp + 32 * page + tableAt bt (y / 8 % 8) (x / 16 % 4)
  let hidx := 128 * block + tableAt tCT16 (y % 8) (x % 16)
  (hidx / 2, hidx % 2)

/-- The width in pages of the T8 and T4 families (R114). -/
def bw2 (bw : Nat) : Nat := bw / 2

/-- The word address and byte lane of a PSMT8 pixel (R112). -/
def addr8 (bp bw x y : Nat) : Nat × Nat :=
  let page := x / 128 + y / 64 * bw2 bw
  let block := bp + 32 * page + tableAt tBT8 (y / 16 % 4) (x / 16 % 8)
  let bidx := 256 * block + tableAt tCT8 (y % 16) (x % 16)
  (bidx / 4, bidx % 4)

/-- The word address and nibble lane of a PSMT4 pixel (R113). -/
def addr4 (bp bw x y : Nat) : Nat × Nat :=
  let page := x / 128 + y / 128 * bw2 bw
  let block := bp + 32 * page + tableAt tBT4 (y / 16 % 8) (x / 32 % 4)
  let nidx := 512 * block + tableAt tCT4 (y % 16) (x % 32)
  (nidx / 8, nidx % 8)

/-- Where a pixel lies: its VRAM word, its lowest bit there and its width (R116). -/
structure PixelLoc where
  word  : Nat
  lo    : Nat
  width : Nat
deriving DecidableEq, Repr

/-- A halfword, byte or nibble lane of `width` bits. -/
def laneLoc (a : Nat × Nat) (width : Nat) : PixelLoc :=
  { word := a.1, lo := width * a.2, width := width }

/-- The location of a pixel in its mode (R115, R116). -/
def pixelLoc (p : Psm) (bp bw x y : Nat) : PixelLoc :=
  match p with
  | .ct32 => { word := addr32 tBT32 bp bw x y, lo := 0, width := 32 }
  | .ct24 => { word := addr32 tBT32 bp bw x y, lo := 0, width := 24 }
  | .ct16 => laneLoc (addr16 tBT16 bp bw x y) 16
  | .ct16s => laneLoc (addr16 tBT16S bp bw x y) 16
  | .t8 => laneLoc (addr8 bp bw x y) 8
  | .t4 => laneLoc (addr4 bp bw x y) 4
  | .t8h => { word := addr32 tBT32 bp bw x y, lo := 24, width := 8 }
  | .t4hl => { word := addr32 tBT32 bp bw x y, lo := 24, width := 4 }
  | .t4hh => { word := addr32 tBT32 bp bw x y, lo := 28, width := 4 }
  | .z32 => { word := addr32 tBTZ32 bp bw x y, lo := 0, width := 32 }
  | .z24 => { word := addr32 tBTZ32 bp bw x y, lo := 0, width := 24 }
  | .z16 => laneLoc (addr16 tBTZ16 bp bw x y) 16
  | .z16s => laneLoc (addr16 tBTZ16S bp bw x y) 16

/-- Whether the mode's pages are 128 pixels wide, so that an odd width is open (R114). -/
def isWidePage (p : Psm) : Bool :=
  match p with
  | .t8 => true
  | .t4 => true
  | .ct32 => false
  | .ct24 => false
  | .ct16 => false
  | .ct16s => false
  | .t8h => false
  | .t4hl => false
  | .t4hh => false
  | .z32 => false
  | .z24 => false
  | .z16 => false
  | .z16s => false

/-- `InBounds` (R120). -/
def inBounds (cfg : Params) (word : Nat) : Bool := decide (word < cfg.vramWords)

/-- The location of a pixel after the checks of R104, R114 and R120 in that order, or the error of
the first check that fails (60_exceptions.md R469). The address is never reduced (R120), and
coordinates never wrap (R121). -/
def locate (cfg : Params) (code : BitVec 6) (bp bw x y : Nat) : Except Err PixelLoc :=
  match psmOf code with
  | none => .error (.unmodelled (.psm code))
  | some p =>
    if isWidePage p && cfg.oddBwPolicy == .refuse && bw % 2 == 1 then
      .error (.unmodelled (.oddWidth bw))
    else if inBounds cfg (pixelLoc p bp bw x y).word then .ok (pixelLoc p bp bw x y)
    else .error (.bounds code x y (pixelLoc p bp bw x y).word)

end Sys2Proof.Machine
end

