-- ==== Sys2Proof/Machine/Operands.lean ====
section
/-! DEFINITION. The operand forms: every field that 10_state.md names in a register, as a view of
the register's 64 bits (R24). A one-bit field that acts as a switch is read as a flag. The
rasterizer reads the fields that no rule of this block reads (00_scope.md section 3). -/

namespace Sys2Proof.Machine

/-! ### PRIM (R26) -/

/-- PRIM.PRIM, [2:0]. -/
def primPRIM (v : Word64) : BitVec 3 := v.extractLsb' 0 3

/-- PRIM.IIP, [3]. -/
def primIIP (v : Word64) : Bool := v.getLsbD 3

/-- PRIM.TME, [4]. -/
def primTME (v : Word64) : Bool := v.getLsbD 4

/-- PRIM.FGE, [5]. -/
def primFGE (v : Word64) : Bool := v.getLsbD 5

/-- PRIM.ABE, [6]. -/
def primABE (v : Word64) : Bool := v.getLsbD 6

/-- PRIM.AA1, [7]. -/
def primAA1 (v : Word64) : Bool := v.getLsbD 7

/-- PRIM.FST, [8]. -/
def primFST (v : Word64) : Bool := v.getLsbD 8

/-- PRIM.CTXT, [9]. -/
def primCTXT (v : Word64) : Bool := v.getLsbD 9

/-- PRIM.FIX, [10]. -/
def primFIX (v : Word64) : Bool := v.getLsbD 10

/-! ### RGBAQ (R27) -/

/-- RGBAQ.R, [7:0]. -/
def rgbaqR (v : Word64) : BitVec 8 := v.extractLsb' 0 8

/-- RGBAQ.G, [15:8]. -/
def rgbaqG (v : Word64) : BitVec 8 := v.extractLsb' 8 8

/-- RGBAQ.B, [23:16]. -/
def rgbaqB (v : Word64) : BitVec 8 := v.extractLsb' 16 8

/-- RGBAQ.A, [31:24]. -/
def rgbaqA (v : Word64) : BitVec 8 := v.extractLsb' 24 8

/-- RGBAQ.Q, [63:32]. -/
def rgbaqQ (v : Word64) : BitVec 32 := v.extractLsb' 32 32

/-! ### ST (R28) -/

/-- ST.S, [31:0]. -/
def stS (v : Word64) : BitVec 32 := v.extractLsb' 0 32

/-- ST.T, [63:32]. -/
def stT (v : Word64) : BitVec 32 := v.extractLsb' 32 32

/-! ### UV (R28) -/

/-- UV.U, [13:0]. -/
def uvU (v : Word64) : BitVec 14 := v.extractLsb' 0 14

/-- UV.V, [29:16]. -/
def uvV (v : Word64) : BitVec 14 := v.extractLsb' 16 14

/-! ### XYZF (R29) -/

/-- XYZF.X, [15:0]. -/
def xyzfX (v : Word64) : BitVec 16 := v.extractLsb' 0 16

/-- XYZF.Y, [31:16]. -/
def xyzfY (v : Word64) : BitVec 16 := v.extractLsb' 16 16

/-- XYZF.Z, [55:32]. -/
def xyzfZ (v : Word64) : BitVec 24 := v.extractLsb' 32 24

/-- XYZF.F, [63:56]. -/
def xyzfF (v : Word64) : BitVec 8 := v.extractLsb' 56 8

/-! ### XYZ (R29) -/

/-- XYZ.X, [15:0]. -/
def xyzX (v : Word64) : BitVec 16 := v.extractLsb' 0 16

/-- XYZ.Y, [31:16]. -/
def xyzY (v : Word64) : BitVec 16 := v.extractLsb' 16 16

/-- XYZ.Z, [63:32]. -/
def xyzZ (v : Word64) : BitVec 32 := v.extractLsb' 32 32

/-! ### FOG (R30) -/

/-- FOG.F, [63:56]. -/
def fogF (v : Word64) : BitVec 8 := v.extractLsb' 56 8

/-! ### TEX0 (R31) -/

/-- TEX0.TBP0, [13:0]. -/
def tex0TBP0 (v : Word64) : BitVec 14 := v.extractLsb' 0 14

/-- TEX0.TBW, [19:14]. -/
def tex0TBW (v : Word64) : BitVec 6 := v.extractLsb' 14 6

/-- TEX0.PSM, [25:20]. -/
def tex0PSM (v : Word64) : BitVec 6 := v.extractLsb' 20 6

/-- TEX0.TW, [29:26]. -/
def tex0TW (v : Word64) : BitVec 4 := v.extractLsb' 26 4

/-- TEX0.TH, [33:30]. -/
def tex0TH (v : Word64) : BitVec 4 := v.extractLsb' 30 4

/-- TEX0.TCC, [34]. -/
def tex0TCC (v : Word64) : Bool := v.getLsbD 34

/-- TEX0.TFX, [36:35]. -/
def tex0TFX (v : Word64) : BitVec 2 := v.extractLsb' 35 2

/-- TEX0.CBP, [50:37]. -/
def tex0CBP (v : Word64) : BitVec 14 := v.extractLsb' 37 14

/-- TEX0.CPSM, [54:51]. -/
def tex0CPSM (v : Word64) : BitVec 4 := v.extractLsb' 51 4

/-- TEX0.CSM, [55]. -/
def tex0CSM (v : Word64) : Bool := v.getLsbD 55

/-- TEX0.CSA, [60:56]. -/
def tex0CSA (v : Word64) : BitVec 5 := v.extractLsb' 56 5

/-- TEX0.CLD, [63:61]. -/
def tex0CLD (v : Word64) : BitVec 3 := v.extractLsb' 61 3

/-! ### CLAMP (R32) -/

/-- CLAMP.WMS, [1:0]. -/
def clampWMS (v : Word64) : BitVec 2 := v.extractLsb' 0 2

/-- CLAMP.WMT, [3:2]. -/
def clampWMT (v : Word64) : BitVec 2 := v.extractLsb' 2 2

/-- CLAMP.MINU, [13:4]. -/
def clampMINU (v : Word64) : BitVec 10 := v.extractLsb' 4 10

/-- CLAMP.MAXU, [23:14]. -/
def clampMAXU (v : Word64) : BitVec 10 := v.extractLsb' 14 10

/-- CLAMP.MINV, [33:24]. -/
def clampMINV (v : Word64) : BitVec 10 := v.extractLsb' 24 10

/-- CLAMP.MAXV, [43:34]. -/
def clampMAXV (v : Word64) : BitVec 10 := v.extractLsb' 34 10

/-! ### TEX1 (R33) -/

/-- TEX1.LCM, [0]. -/
def tex1LCM (v : Word64) : Bool := v.getLsbD 0

/-- TEX1.MXL, [4:2]. -/
def tex1MXL (v : Word64) : BitVec 3 := v.extractLsb' 2 3

/-- TEX1.MMAG, [5]. -/
def tex1MMAG (v : Word64) : Bool := v.getLsbD 5

/-- TEX1.MMIN, [8:6]. -/
def tex1MMIN (v : Word64) : BitVec 3 := v.extractLsb' 6 3

/-- TEX1.MTBA, [9]. -/
def tex1MTBA (v : Word64) : Bool := v.getLsbD 9

/-- TEX1.L, [20:19]. -/
def tex1L (v : Word64) : BitVec 2 := v.extractLsb' 19 2

/-- TEX1.K, [43:32]. -/
def tex1K (v : Word64) : BitVec 12 := v.extractLsb' 32 12

/-! ### XYOFFSET (R34) -/

/-- XYOFFSET.OFX, [15:0]. -/
def xyoffsetOFX (v : Word64) : BitVec 16 := v.extractLsb' 0 16

/-- XYOFFSET.OFY, [47:32]. -/
def xyoffsetOFY (v : Word64) : BitVec 16 := v.extractLsb' 32 16

/-! ### PRMODECONT (R35) -/

/-- PRMODECONT.AC, [0]. -/
def prmodecontAC (v : Word64) : Bool := v.getLsbD 0

/-! ### PRMODE (R35) -/

/-- PRMODE.IIP, [3]. -/
def prmodeIIP (v : Word64) : Bool := v.getLsbD 3

/-- PRMODE.TME, [4]. -/
def prmodeTME (v : Word64) : Bool := v.getLsbD 4

/-- PRMODE.FGE, [5]. -/
def prmodeFGE (v : Word64) : Bool := v.getLsbD 5

/-- PRMODE.ABE, [6]. -/
def prmodeABE (v : Word64) : Bool := v.getLsbD 6

/-- PRMODE.AA1, [7]. -/
def prmodeAA1 (v : Word64) : Bool := v.getLsbD 7

/-- PRMODE.FST, [8]. -/
def prmodeFST (v : Word64) : Bool := v.getLsbD 8

/-- PRMODE.CTXT, [9]. -/
def prmodeCTXT (v : Word64) : Bool := v.getLsbD 9

/-- PRMODE.FIX, [10]. -/
def prmodeFIX (v : Word64) : Bool := v.getLsbD 10

/-! ### TEXCLUT (R36) -/

/-- TEXCLUT.CBW, [5:0]. -/
def texclutCBW (v : Word64) : BitVec 6 := v.extractLsb' 0 6

/-- TEXCLUT.COU, [11:6]. -/
def texclutCOU (v : Word64) : BitVec 6 := v.extractLsb' 6 6

/-- TEXCLUT.COV, [21:12]. -/
def texclutCOV (v : Word64) : BitVec 10 := v.extractLsb' 12 10

/-! ### SCANMSK (R36) -/

/-- SCANMSK.MSK, [1:0]. -/
def scanmskMSK (v : Word64) : BitVec 2 := v.extractLsb' 0 2

/-! ### TEXA (R36) -/

/-- TEXA.TA0, [7:0]. -/
def texaTA0 (v : Word64) : BitVec 8 := v.extractLsb' 0 8

/-- TEXA.AEM, [15]. -/
def texaAEM (v : Word64) : Bool := v.getLsbD 15

/-- TEXA.TA1, [39:32]. -/
def texaTA1 (v : Word64) : BitVec 8 := v.extractLsb' 32 8

/-! ### FOGCOL (R36) -/

/-- FOGCOL.FCR, [7:0]. -/
def fogcolFCR (v : Word64) : BitVec 8 := v.extractLsb' 0 8

/-- FOGCOL.FCG, [15:8]. -/
def fogcolFCG (v : Word64) : BitVec 8 := v.extractLsb' 8 8

/-- FOGCOL.FCB, [23:16]. -/
def fogcolFCB (v : Word64) : BitVec 8 := v.extractLsb' 16 8

/-! ### MIPTBP1 (R37) -/

/-- MIPTBP1.TBP1, [13:0]. -/
def miptbp1TBP1 (v : Word64) : BitVec 14 := v.extractLsb' 0 14

/-- MIPTBP1.TBW1, [19:14]. -/
def miptbp1TBW1 (v : Word64) : BitVec 6 := v.extractLsb' 14 6

/-- MIPTBP1.TBP2, [33:20]. -/
def miptbp1TBP2 (v : Word64) : BitVec 14 := v.extractLsb' 20 14

/-- MIPTBP1.TBW2, [39:34]. -/
def miptbp1TBW2 (v : Word64) : BitVec 6 := v.extractLsb' 34 6

/-- MIPTBP1.TBP3, [53:40]. -/
def miptbp1TBP3 (v : Word64) : BitVec 14 := v.extractLsb' 40 14

/-- MIPTBP1.TBW3, [59:54]. -/
def miptbp1TBW3 (v : Word64) : BitVec 6 := v.extractLsb' 54 6

/-! ### MIPTBP2 (R37) -/

/-- MIPTBP2.TBP4, [13:0]. -/
def miptbp2TBP4 (v : Word64) : BitVec 14 := v.extractLsb' 0 14

/-- MIPTBP2.TBW4, [19:14]. -/
def miptbp2TBW4 (v : Word64) : BitVec 6 := v.extractLsb' 14 6

/-- MIPTBP2.TBP5, [33:20]. -/
def miptbp2TBP5 (v : Word64) : BitVec 14 := v.extractLsb' 20 14

/-- MIPTBP2.TBW5, [39:34]. -/
def miptbp2TBW5 (v : Word64) : BitVec 6 := v.extractLsb' 34 6

/-- MIPTBP2.TBP6, [53:40]. -/
def miptbp2TBP6 (v : Word64) : BitVec 14 := v.extractLsb' 40 14

/-- MIPTBP2.TBW6, [59:54]. -/
def miptbp2TBW6 (v : Word64) : BitVec 6 := v.extractLsb' 54 6

/-! ### SCISSOR (R38) -/

/-- SCISSOR.SCAX0, [10:0]. -/
def scissorSCAX0 (v : Word64) : BitVec 11 := v.extractLsb' 0 11

/-- SCISSOR.SCAX1, [26:16]. -/
def scissorSCAX1 (v : Word64) : BitVec 11 := v.extractLsb' 16 11

/-- SCISSOR.SCAY0, [42:32]. -/
def scissorSCAY0 (v : Word64) : BitVec 11 := v.extractLsb' 32 11

/-- SCISSOR.SCAY1, [58:48]. -/
def scissorSCAY1 (v : Word64) : BitVec 11 := v.extractLsb' 48 11

/-! ### ALPHA (R39) -/

/-- ALPHA.A, [1:0]. -/
def alphaA (v : Word64) : BitVec 2 := v.extractLsb' 0 2

/-- ALPHA.B, [3:2]. -/
def alphaB (v : Word64) : BitVec 2 := v.extractLsb' 2 2

/-- ALPHA.C, [5:4]. -/
def alphaC (v : Word64) : BitVec 2 := v.extractLsb' 4 2

/-- ALPHA.D, [7:6]. -/
def alphaD (v : Word64) : BitVec 2 := v.extractLsb' 6 2

/-- ALPHA.FIX, [39:32]. -/
def alphaFIX (v : Word64) : BitVec 8 := v.extractLsb' 32 8

/-! ### DIMX (R39) -/

/-- DIMX.DMij, a signed 3-bit dither entry. -/
def dimxDM (v : Word64) (i j : Nat) : BitVec 3 := v.extractLsb' (4 * (4 * i + j)) 3

/-! ### DTHE (R39) -/

/-- DTHE.DTHE, [0]. -/
def dtheDTHE (v : Word64) : Bool := v.getLsbD 0

/-! ### COLCLAMP (R39) -/

/-- COLCLAMP.CLAMP, [0]. -/
def colclampCLAMP (v : Word64) : Bool := v.getLsbD 0

/-! ### PABE (R39) -/

/-- PABE.PABE, [0]. -/
def pabePABE (v : Word64) : Bool := v.getLsbD 0

/-! ### FBA (R39) -/

/-- FBA.FBA, [0]. -/
def fbaFBA (v : Word64) : Bool := v.getLsbD 0

/-! ### TEST (R40) -/

/-- TEST.ATE, [0]. -/
def testATE (v : Word64) : Bool := v.getLsbD 0

/-- TEST.ATST, [3:1]. -/
def testATST (v : Word64) : BitVec 3 := v.extractLsb' 1 3

/-- TEST.AREF, [11:4]. -/
def testAREF (v : Word64) : BitVec 8 := v.extractLsb' 4 8

/-- TEST.AFAIL, [13:12]. -/
def testAFAIL (v : Word64) : BitVec 2 := v.extractLsb' 12 2

/-- TEST.DATE, [14]. -/
def testDATE (v : Word64) : Bool := v.getLsbD 14

/-- TEST.DATM, [15]. -/
def testDATM (v : Word64) : Bool := v.getLsbD 15

/-- TEST.ZTE, [16]. -/
def testZTE (v : Word64) : Bool := v.getLsbD 16

/-- TEST.ZTST, [18:17]. -/
def testZTST (v : Word64) : BitVec 2 := v.extractLsb' 17 2

/-! ### FRAME (R41) -/

/-- FRAME.FBP, [8:0]. -/
def frameFBP (v : Word64) : BitVec 9 := v.extractLsb' 0 9

/-- FRAME.FBW, [21:16]. -/
def frameFBW (v : Word64) : BitVec 6 := v.extractLsb' 16 6

/-- FRAME.PSM, [29:24]. -/
def framePSM (v : Word64) : BitVec 6 := v.extractLsb' 24 6

/-- FRAME.FBMSK, [63:32]. -/
def frameFBMSK (v : Word64) : BitVec 32 := v.extractLsb' 32 32

/-! ### ZBUF (R41) -/

/-- ZBUF.ZBP, [8:0]. -/
def zbufZBP (v : Word64) : BitVec 9 := v.extractLsb' 0 9

/-- ZBUF.PSM, [27:24]. -/
def zbufPSM (v : Word64) : BitVec 4 := v.extractLsb' 24 4

/-- ZBUF.ZMSK, [32]. -/
def zbufZMSK (v : Word64) : Bool := v.getLsbD 32

/-! ### BITBLTBUF (R42) -/

/-- BITBLTBUF.SBP, [13:0]. -/
def bitbltbufSBP (v : Word64) : BitVec 14 := v.extractLsb' 0 14

/-- BITBLTBUF.SBW, [21:16]. -/
def bitbltbufSBW (v : Word64) : BitVec 6 := v.extractLsb' 16 6

/-- BITBLTBUF.SPSM, [29:24]. -/
def bitbltbufSPSM (v : Word64) : BitVec 6 := v.extractLsb' 24 6

/-- BITBLTBUF.DBP, [45:32]. -/
def bitbltbufDBP (v : Word64) : BitVec 14 := v.extractLsb' 32 14

/-- BITBLTBUF.DBW, [53:48]. -/
def bitbltbufDBW (v : Word64) : BitVec 6 := v.extractLsb' 48 6

/-- BITBLTBUF.DPSM, [61:56]. -/
def bitbltbufDPSM (v : Word64) : BitVec 6 := v.extractLsb' 56 6

/-! ### TRXPOS (R42) -/

/-- TRXPOS.SSAX, [10:0]. -/
def trxposSSAX (v : Word64) : BitVec 11 := v.extractLsb' 0 11

/-- TRXPOS.SSAY, [26:16]. -/
def trxposSSAY (v : Word64) : BitVec 11 := v.extractLsb' 16 11

/-- TRXPOS.DSAX, [42:32]. -/
def trxposDSAX (v : Word64) : BitVec 11 := v.extractLsb' 32 11

/-- TRXPOS.DSAY, [58:48]. -/
def trxposDSAY (v : Word64) : BitVec 11 := v.extractLsb' 48 11

/-- TRXPOS.DIR, [60:59]. -/
def trxposDIR (v : Word64) : BitVec 2 := v.extractLsb' 59 2

/-! ### TRXREG (R42) -/

/-- TRXREG.RRW, [11:0]. -/
def trxregRRW (v : Word64) : BitVec 12 := v.extractLsb' 0 12

/-- TRXREG.RRH, [43:32]. -/
def trxregRRH (v : Word64) : BitVec 12 := v.extractLsb' 32 12

/-! ### TRXDIR (R42) -/

/-- TRXDIR.XDIR, [1:0]. -/
def trxdirXDIR (v : Word64) : BitVec 2 := v.extractLsb' 0 2

/-! ### SIGNAL (42_general_registers.md R333, R335) -/

/-- SIGNAL.ID, [31:0]. -/
def signalID (v : Word64) : BitVec 32 := v.extractLsb' 0 32

/-- SIGNAL.IDMSK, [63:32]. -/
def signalIDMSK (v : Word64) : BitVec 32 := v.extractLsb' 32 32

/-! ### PMODE (R47) -/

/-- PMODE.EN1, [0]. -/
def pmodeEN1 (v : Word64) : Bool := v.getLsbD 0

/-- PMODE.EN2, [1]. -/
def pmodeEN2 (v : Word64) : Bool := v.getLsbD 1

/-- PMODE.CRTMD, [4:2]. -/
def pmodeCRTMD (v : Word64) : BitVec 3 := v.extractLsb' 2 3

/-- PMODE.MMOD, [5]. -/
def pmodeMMOD (v : Word64) : Bool := v.getLsbD 5

/-- PMODE.AMOD, [6]. -/
def pmodeAMOD (v : Word64) : Bool := v.getLsbD 6

/-- PMODE.SLBG, [7]. -/
def pmodeSLBG (v : Word64) : Bool := v.getLsbD 7

/-- PMODE.ALP, [15:8]. -/
def pmodeALP (v : Word64) : BitVec 8 := v.extractLsb' 8 8

/-! ### SMODE2 (R48) -/

/-- SMODE2.INT, [0]. -/
def smode2INT (v : Word64) : Bool := v.getLsbD 0

/-- SMODE2.FFMD, [1]. -/
def smode2FFMD (v : Word64) : Bool := v.getLsbD 1

/-- SMODE2.DPMS, [3:2]. -/
def smode2DPMS (v : Word64) : BitVec 2 := v.extractLsb' 2 2

/-! ### DISPFB (R49) -/

/-- DISPFB.FBP, [8:0]. -/
def dispfbFBP (v : Word64) : BitVec 9 := v.extractLsb' 0 9

/-- DISPFB.FBW, [14:9]. -/
def dispfbFBW (v : Word64) : BitVec 6 := v.extractLsb' 9 6

/-- DISPFB.PSM, [19:15]. -/
def dispfbPSM (v : Word64) : BitVec 5 := v.extractLsb' 15 5

/-- DISPFB.DBX, [42:32]. -/
def dispfbDBX (v : Word64) : BitVec 11 := v.extractLsb' 32 11

/-- DISPFB.DBY, [53:43]. -/
def dispfbDBY (v : Word64) : BitVec 11 := v.extractLsb' 43 11

/-! ### DISPLAY (R49) -/

/-- DISPLAY.DX, [11:0]. -/
def displayDX (v : Word64) : BitVec 12 := v.extractLsb' 0 12

/-- DISPLAY.DY, [22:12]. -/
def displayDY (v : Word64) : BitVec 11 := v.extractLsb' 12 11

/-- DISPLAY.MAGH, [26:23]. -/
def displayMAGH (v : Word64) : BitVec 4 := v.extractLsb' 23 4

/-- DISPLAY.MAGV, [28:27]. -/
def displayMAGV (v : Word64) : BitVec 2 := v.extractLsb' 27 2

/-- DISPLAY.DW, [43:32]. -/
def displayDW (v : Word64) : BitVec 12 := v.extractLsb' 32 12

/-- DISPLAY.DH, [54:44]. -/
def displayDH (v : Word64) : BitVec 11 := v.extractLsb' 44 11

/-! ### EXTBUF (R50) -/

/-- EXTBUF.EXBP, [13:0]. -/
def extbufEXBP (v : Word64) : BitVec 14 := v.extractLsb' 0 14

/-- EXTBUF.EXBW, [19:14]. -/
def extbufEXBW (v : Word64) : BitVec 6 := v.extractLsb' 14 6

/-- EXTBUF.FBIN, [21:20]. -/
def extbufFBIN (v : Word64) : BitVec 2 := v.extractLsb' 20 2

/-- EXTBUF.WFFMD, [22]. -/
def extbufWFFMD (v : Word64) : Bool := v.getLsbD 22

/-- EXTBUF.EMODA, [24:23]. -/
def extbufEMODA (v : Word64) : BitVec 2 := v.extractLsb' 23 2

/-- EXTBUF.EMODC, [26:25]. -/
def extbufEMODC (v : Word64) : BitVec 2 := v.extractLsb' 25 2

/-- EXTBUF.WDX, [42:32]. -/
def extbufWDX (v : Word64) : BitVec 11 := v.extractLsb' 32 11

/-- EXTBUF.WDY, [53:43]. -/
def extbufWDY (v : Word64) : BitVec 11 := v.extractLsb' 43 11

/-! ### EXTDATA (R50) -/

/-- EXTDATA.SX, [11:0]. -/
def extdataSX (v : Word64) : BitVec 12 := v.extractLsb' 0 12

/-- EXTDATA.SY, [22:12]. -/
def extdataSY (v : Word64) : BitVec 11 := v.extractLsb' 12 11

/-- EXTDATA.SMPH, [26:23]. -/
def extdataSMPH (v : Word64) : BitVec 4 := v.extractLsb' 23 4

/-- EXTDATA.SMPV, [28:27]. -/
def extdataSMPV (v : Word64) : BitVec 2 := v.extractLsb' 27 2

/-- EXTDATA.WW, [43:32]. -/
def extdataWW (v : Word64) : BitVec 12 := v.extractLsb' 32 12

/-- EXTDATA.WH, [54:44]. -/
def extdataWH (v : Word64) : BitVec 11 := v.extractLsb' 44 11

/-! ### EXTWRITE (R50) -/

/-- EXTWRITE.WRITE, [0]. -/
def extwriteWRITE (v : Word64) : Bool := v.getLsbD 0

/-! ### BGCOLOR (R50) -/

/-- BGCOLOR.R, [7:0]. -/
def bgcolorR (v : Word64) : BitVec 8 := v.extractLsb' 0 8

/-- BGCOLOR.G, [15:8]. -/
def bgcolorG (v : Word64) : BitVec 8 := v.extractLsb' 8 8

/-- BGCOLOR.B, [23:16]. -/
def bgcolorB (v : Word64) : BitVec 8 := v.extractLsb' 16 8

/-! ### IMR (R52) -/

/-- IMR.SIGMSK, [8]. -/
def imrSIGMSK (v : Word64) : Bool := v.getLsbD 8

/-- IMR.FINISHMSK, [9]. -/
def imrFINISHMSK (v : Word64) : Bool := v.getLsbD 9

/-- IMR.HSMSK, [10]. -/
def imrHSMSK (v : Word64) : Bool := v.getLsbD 10

/-- IMR.VSMSK, [11]. -/
def imrVSMSK (v : Word64) : Bool := v.getLsbD 11

/-- IMR.EDWMSK, [12]. -/
def imrEDWMSK (v : Word64) : Bool := v.getLsbD 12

/-! ### BUSDIR (R52) -/

/-- BUSDIR.DIR, [0]. -/
def busdirDIR (v : Word64) : Bool := v.getLsbD 0

/-! ### SIGLBLID (R52) -/

/-- SIGLBLID.SIGID, [31:0]. -/
def siglblidSIGID (v : Word64) : BitVec 32 := v.extractLsb' 0 32

/-- SIGLBLID.LBLID, [63:32]. -/
def siglblidLBLID (v : Word64) : BitVec 32 := v.extractLsb' 32 32

/-! ### Units and codes -/

/-- The primitive type PRIM selects (R26). -/
def primTypeOf (v : Word64) : PrimType :=
  match (primPRIM v).toNat with
  | 0 => .point
  | 1 => .line
  | 2 => .lineStrip
  | 3 => .triangle
  | 4 => .triangleStrip
  | 5 => .triangleFan
  | 6 => .sprite
  | _ => .reserved

/-- A base given in pages, in blocks (20_memory.md R102). -/
def pagesToBlocks (fbp : Nat) : Nat := 32 * fbp

end Sys2Proof.Machine
end

