-- ==== Sys2Proof/Machine/Ops.lean ====
section
/-! DEFINITION. The named operations over memory and registers, and the report of errors. The block
has no traps (60_exceptions.md R472): raising an error, `raise`, is the one shared operation that
stands where another machine takes an exception, and there is no return from it (R473). -/

namespace Sys2Proof.Machine

/-! ## Memory -/

/-- The byte at an address; an unlisted byte is 0 (10_state.md R53). -/
def readByte (m : Memory) (a : Nat) : Byte :=
  match m with
  | [] => 0#8
  | c :: rest => if c.1 = a then c.2 else readByte rest a

/-- Writes one byte, keeping the canonical form: a byte 0 is not listed. -/
def writeByte (m : Memory) (a : Nat) (b : Byte) : Memory :=
  match m with
  | [] => if b = 0#8 then [] else [(a, b)]
  | c :: rest =>
    if a < c.1 then (if b = 0#8 then c :: rest else (a, b) :: c :: rest)
    else if c.1 = a then (if b = 0#8 then rest else (a, b) :: rest)
    else c :: writeByte rest a b

/-- `MemRead`: VRAM word `w` (00_scope.md R4), byte lane 0 lowest (20_memory.md R101). -/
def readWord (m : Memory) (w : Nat) : Word32 :=
  (readByte m (4 * w + 3) ++ readByte m (4 * w + 2) ++ readByte m (4 * w + 1) ++
    readByte m (4 * w) : BitVec 32)

/-- `MemWrite`: VRAM word `w` (00_scope.md R4). -/
def writeWord (m : Memory) (w : Nat) (v : Word32) : Memory :=
  let m0 := writeByte m (4 * w) (v.extractLsb' 0 8)
  let m1 := writeByte m0 (4 * w + 1) (v.extractLsb' 8 8)
  let m2 := writeByte m1 (4 * w + 2) (v.extractLsb' 16 8)
  writeByte m2 (4 * w + 3) (v.extractLsb' 24 8)

/-- A list of word writes in order, those out of bounds left out (43_primitive_assembler.md R354). -/
def writeWords (cfg : Params) (m : Memory) (ws : List (Nat × Word32)) : Memory :=
  match ws with
  | [] => m
  | p :: rest => writeWords cfg (if inBounds cfg p.1 then writeWord m p.1 p.2 else m) rest

/-! ## State updates -/

def State.setDec (s : State) (d : Decoder) : State := { s with dec := d }
def State.setReg (s : State) (r : RegFile) : State := { s with reg := r }
def State.setVq (s : State) (q : List Vertex) : State := { s with vq := q }
def State.setXfer (s : State) (x : Xfer) : State := { s with xfer := x }
def State.setPriv (s : State) (p : PrivRegs) : State := { s with priv := p }
def State.setVram (s : State) (m : Memory) : State := { s with vram := m }
def State.setInbox (s : State) (cs : List Call) : State := { s with inbox := cs }
def State.setOut (s : State) (o : CallOut) : State := { s with out := o }
def State.setUnmodelled (s : State) (b : Bool) : State := { s with unmodelled := b }

/-! ## Errors (60_exceptions.md R460 to R469) -/

/-- The code of an error record (R461). -/
def errCode (e : Err) : Nat :=
  match e with
  | .truncatedPayload _ => 1
  | .truncatedNoEop => 1
  | .pathInterleave _ _ => 2
  | .hwregInactive _ => 3
  | .primReserved _ => 4
  | .unknownReg _ _ => 5
  | .unknownAddr _ _ => 5
  | .unmodelled _ => 6
  | .bounds _ _ _ _ => 7

/-- The name of an error record (R461). -/
def errName (e : Err) : String :=
  match e with
  | .truncatedPayload _ => "E_TRUNCATED"
  | .truncatedNoEop => "E_TRUNCATED"
  | .pathInterleave _ _ => "E_PATH_INTERLEAVE"
  | .hwregInactive _ => "E_HWREG_INACTIVE"
  | .primReserved _ => "E_PRIM_RESERVED"
  | .unknownReg _ _ => "E_UNKNOWN_REG"
  | .unknownAddr _ _ => "E_UNKNOWN_REG"
  | .unmodelled _ => "E_UNMODELLED"
  | .bounds _ _ _ _ => "E_BOUNDS"

/-- The three classes of errors (R461). -/
inductive ErrClass where
  /-- (a) protocol violation. -/
  | protocol
  /-- (b) unimplemented or unknown register. -/
  | unknown
  /-- (c) bounds violation. -/
  | bounds
deriving DecidableEq, Repr

/-- The class of an error record (R461). -/
def errClass (e : Err) : ErrClass :=
  match e with
  | .truncatedPayload _ => .protocol
  | .truncatedNoEop => .protocol
  | .pathInterleave _ _ => .protocol
  | .hwregInactive _ => .protocol
  | .primReserved _ => .protocol
  | .unknownReg _ _ => .unknown
  | .unknownAddr _ _ => .unknown
  | .unmodelled _ => .unknown
  | .bounds _ _ _ _ => .bounds

/-- An E_UNMODELLED, which sets the mark of the run (R465). -/
def isUnmodelled (e : Err) : Bool := errCode e == 6

/-- `raise` (00_scope.md R5): the record is appended to the call's report and the call goes on; an
E_UNMODELLED also sets the sticky mark (60_exceptions.md R465). -/
def raise (e : Err) (s : State) : State :=
  { s with
    out := { s.out with report := s.out.report ++ [e] }
    unmodelled := s.unmodelled || isUnmodelled e }

/-- Gives the host call its result value. -/
def setResult (r : Result) (s : State) : State := s.setOut { s.out with result := r }

/-! ## Pixels (20_memory.md R115, R116) -/

/-- The bits of a word that a pixel of `width` bits at `lo` occupies. -/
def pixelMask (l : PixelLoc) : Word32 := BitVec.ofNat 32 (2 ^ l.width - 1) <<< l.lo

/-- The pixel's bits of a word, zero-extended. -/
def getPixel (l : PixelLoc) (word : Word32) : Word32 :=
  (word >>> l.lo) &&& BitVec.ofNat 32 (2 ^ l.width - 1)

/-- The word with the pixel's bits replaced by the low bits of `p`, every other bit kept. -/
def putPixel (l : PixelLoc) (word p : Word32) : Word32 :=
  (word &&& ~~~(pixelMask l)) ||| ((p <<< l.lo) &&& pixelMask l)

/-- `(p, ok) <- PixRead(...)` (R115): a failed check raises its error and gives 0. -/
def pixRead (code : BitVec 6) (bp bw x y : Nat) (s : State) : (Word32 × Bool) × State :=
  match locate s.cfg code bp bw x y with
  | .error e => ((0#32, false), raise e s)
  | .ok l => ((getPixel l (readWord s.vram l.word), true), s)

/-- `PixWrite` (R116): a failed check raises its error and writes nothing. -/
def pixWrite (code : BitVec 6) (bp bw x y : Nat) (p : Word32) (s : State) : State :=
  match locate s.cfg code bp bw x y with
  | .error e => raise e s
  | .ok l => s.setVram (writeWord s.vram l.word (putPixel l (readWord s.vram l.word) p))

/-! ## Contexts (42_general_registers.md R281) -/

/-- One copy of a paired register. -/
def Pair.get (p : Pair) (c : Ctx) : Word64 :=
  match c with
  | .c1 => p.c1
  | .c2 => p.c2

/-- Writes one copy of a paired register. -/
def Pair.set (p : Pair) (c : Ctx) (v : Word64) : Pair :=
  match c with
  | .c1 => { p with c1 := v }
  | .c2 => { p with c2 := v }

/-- `ActiveCtx()`: the context bit of PRIM, or of PRMODE when PRMODECONT.AC is 0. -/
def activeCtx (r : RegFile) : Ctx :=
  if (if prmodecontAC r.prmodecont then primCTXT r.prim else prmodeCTXT r.prmode) then .c2 else .c1

/-- `CtxSel` for the five registers that follow the active context: the copy that a write by the id
of copy `n` reaches. -/
def ctxSel (cfg : Params) (r : RegFile) (n : Ctx) : Ctx :=
  if cfg.ctxWriteByAddress then n else activeCtx r

/-! ## Reset (70_reset_and_hazards.md R490, R491) -/

/-- `reset()`: every state element gets its reset value, all at once; the parameters and what
belongs to the host (the pending calls, the outputs of this call, the mark of the run) stay. -/
def resetBlock (s : State) : State :=
  { State.reset with cfg := s.cfg, inbox := s.inbox, out := s.out, unmodelled := s.unmodelled }

/-! ## Fetching a host call -/

/-- The oldest pending host call and the calls after it (log entry 1). -/
def fetch (s : State) : Option (Call × List Call) :=
  match s.inbox with
  | [] => none
  | c :: rest => some (c, rest)

/-- The state in which a fetched call is performed: the call is no longer pending and nothing is
reported yet (60_exceptions.md R460). -/
def beginCall (rest : List Call) (s : State) : State :=
  { s with inbox := rest, out := CallOut.empty }

/-- A decoder in the middle of a PACKED packet on path FEED whose next qword, the last, is read
under descriptor `d`. -/
def decoderAtPacked (d : BitVec 4) (old : Decoder) : Decoder where
  decState := .processing
  packetOpen := true
  packetPath := .feed
  tag := { nloop := 1, eop := true, pre := false, prim := 0, flg := 0, nreg := 1,
           regs := d.setWidth 64 }
  regCount := 1
  regsLeft := 1
  dataLeft := 1
  packedQ := old.packedQ

/-- A decoder that reads the next qword of either path as a tag. -/
def decoderAtTag (old : Decoder) : Decoder :=
  { old with decState := .awaitingTag, packetOpen := false, regsLeft := 0, dataLeft := 0 }

/-- Places a word of the opcode table so that the very next step runs its instruction (log entry 9):
a tag is fed to a decoder that awaits one, a PACKED descriptor to a decoder that reads its payload
qword under it, a register id is written 0 by `write64`, an address is read by `read32`. A word
that is no instruction places nothing. -/
def placeTableWord (s : State) (nbits w : Nat) : State :=
  match tableCode nbits w with
  | .error _ => s
  | .ok (.tag _ q) => { s with dec := decoderAtTag s.dec, inbox := .feedGif q :: s.inbox }
  | .ok (.packed d q) => { s with dec := decoderAtPacked d s.dec, inbox := .feedGif q :: s.inbox }
  | .ok (.slot _ _) => s
  | .ok (.image _) => s
  | .ok (.reg _ id v) => s.setInbox (.write64 (id.setWidth 32) v :: s.inbox)
  | .ok (.priv _ addr _) => s.setInbox (.read32 addr :: s.inbox)
  | .ok (.call c) => s.setInbox (c :: s.inbox)

end Sys2Proof.Machine
end

