-- ==== Sys2Proof/Machine/Flags.lean ====
section
/-! DEFINITION. The flags: the attribute flags of a draw, the event flags of CSR, and the interrupt
level (43_primitive_assembler.md R351; 45_privileged_registers.md R450, R451; 60_exceptions.md
R470). -/

namespace Sys2Proof.Machine

/-! ## Attribute flags (43_primitive_assembler.md R351) -/

/-- The flags of PRIM (10_state.md R26). -/
def primFlags (v : Word64) : PrimFlags where
  iip := primIIP v
  tme := primTME v
  fge := primFGE v
  abe := primABE v
  aa1 := primAA1 v
  fst := primFST v
  fix := primFIX v

/-- The flags of PRMODE (10_state.md R35). -/
def prmodeFlags (v : Word64) : PrimFlags where
  iip := prmodeIIP v
  tme := prmodeTME v
  fge := prmodeFGE v
  abe := prmodeABE v
  aa1 := prmodeAA1 v
  fst := prmodeFST v
  fix := prmodeFIX v

/-- The flags of the next draw: PRIM's when PRMODECONT.AC = 1, PRMODE's when AC = 0. -/
def effectiveFlags (r : RegFile) : PrimFlags :=
  if prmodecontAC r.prmodecont then primFlags r.prim else prmodeFlags r.prmode

/-! ## CSR (45_privileged_registers.md R450, R451) -/

/-- A flag as bit `i` of a register. -/
def flagAt (b : Bool) (i : Nat) : Word64 := (flagBit b).setWidth 64 <<< i

/-- `PrivRead(CSR)` (R451): the flags, FIFO = 0b01, REV and ID. -/
def csrRead (cfg : Params) (p : PrivRegs) : Word64 :=
  flagAt p.csrSignal 0 ||| flagAt p.csrFinish 1 ||| flagAt p.csrHsint 2 ||| flagAt p.csrVsint 3 |||
    flagAt p.csrEdwint 4 ||| flagAt p.csrNfield 12 ||| flagAt p.csrField 13 |||
    (0b01#2).setWidth 64 <<< 14 ||| cfg.csrRev.setWidth 64 <<< 16 ||| cfg.csrId.setWidth 64 <<< 24

/-- The event flags after a CSR write: bits 0 to 4 clear their flag when written 1 (R450). -/
def csrAck (w : Word32) (p : PrivRegs) : PrivRegs :=
  { p with
    csrSignal := p.csrSignal && !w.getLsbD 0
    csrFinish := p.csrFinish && !w.getLsbD 1
    csrHsint := p.csrHsint && !w.getLsbD 2
    csrVsint := p.csrVsint && !w.getLsbD 3
    csrEdwint := p.csrEdwint && !w.getLsbD 4 }

/-- `CsrWrite(w)` (R450): the acknowledged flags, then `reset()` when bit 9 is written 1
(70_reset_and_hazards.md R492). Every other bit is ignored. -/
def csrWrite (w : Word32) (s : State) : State :=
  if w.getLsbD 9 then resetBlock (s.setPriv (csrAck w s.priv)) else s.setPriv (csrAck w s.priv)

/-! ## The interrupt level (60_exceptions.md R470) -/

/-- The level the block drives: an event flag set and not masked in IMR. It is a function of the
state, seen by the host after every call. -/
def irq (s : State) : Bool :=
  (s.priv.csrSignal && !imrSIGMSK s.priv.imr) || (s.priv.csrFinish && !imrFINISHMSK s.priv.imr) ||
    (s.priv.csrHsint && !imrHSMSK s.priv.imr) || (s.priv.csrVsint && !imrVSMSK s.priv.imr) ||
    (s.priv.csrEdwint && !imrEDWMSK s.priv.imr)

end Sys2Proof.Machine
end

