-- ==== Sys2Proof/Machine/Transfer.lean ====
section
/-! DEFINITION. The transfer engine (44_transfer_engine.md R380 to R398). Every rule reads the
latched copies of BITBLTBUF, TRXPOS and TRXREG (R385). -/

namespace Sys2Proof.Machine

/-! ## Fields of the latched registers -/

/-- RRW of the latched TRXREG. -/
def xferWidth (x : Xfer) : Nat := (trxregRRW x.reg).toNat

/-- RRH of the latched TRXREG. -/
def xferHeight (x : Xfer) : Nat := (trxregRRH x.reg).toNat

/-- `PixelXY(k, o)` in a rectangle of width `w` and height `h` (R387). -/
def pixelXY (w h k : Nat) (o : BitVec 2) : Nat × Nat :=
  let i := k % w
  let j := k / w
  match o.toNat with
  | 0 => (i, j)
  | 1 => (i, h - 1 - j)
  | 2 => (w - 1 - i, j)
  | _ => (w - 1 - i, h - 1 - j)

/-- The rectangle offset of pixel `k` of the latched transfer in order `o`. -/
def xferXY (x : Xfer) (k : Nat) (o : BitVec 2) : Nat × Nat :=
  pixelXY (xferWidth x) (xferHeight x) k o

/-- Reads the source pixel at a rectangle offset (R387). -/
def readSource (off : Nat × Nat) (s : State) : (Word32 × Bool) × State :=
  let x := s.xfer
  pixRead (bitbltbufSPSM x.buf) (bitbltbufSBP x.buf).toNat (bitbltbufSBW x.buf).toNat
    ((trxposSSAX x.pos).toNat + off.1) ((trxposSSAY x.pos).toNat + off.2) s

/-- Writes the destination pixel at a rectangle offset (R387). -/
def writeDest (off : Nat × Nat) (p : Word32) (s : State) : State :=
  let x := s.xfer
  pixWrite (bitbltbufDPSM x.buf) (bitbltbufDBP x.buf).toNat (bitbltbufDBW x.buf).toNat
    ((trxposDSAX x.pos).toNat + off.1) ((trxposDSAY x.pos).toNat + off.2) p s

/-- One more pixel counted, moved or rejected (R392, R394, R389, R397). -/
def countPixel (s : State) : State :=
  s.setXfer { s.xfer with
    pixels := s.xfer.pixels + 1
    addr := s.xfer.addr + s.xfer.bitDepth }

/-! ## Deactivation -/

/-- `Deactivate()` (R390): TRXDIR returns to off, its other bits kept. -/
def deactivate (s : State) : State :=
  { s with
    xfer := { s.xfer with active := false }
    reg := { s.reg with trxdir := (s.reg.trxdir &&& ~~~0x3#64) ||| 0x3#64 } }

/-- `Cancel()` (R384): an active transfer ends at once and its buffered bits are discarded; with no
active transfer nothing changes. -/
def cancelXfer (s : State) : State :=
  if s.xfer.active then
    s.setXfer { s.xfer with active := false, streamBits := 0, streamN := 0 }
  else s

/-! ## Activation (R381 to R386) -/

/-- The direction of XDIR 0, 1 and 2; none for 3 (R380). -/
def xferDirOf (xdir : BitVec 2) : Option XferDir :=
  match xdir.toNat with
  | 0 => some .hostToLocal
  | 1 => some .localToHost
  | 2 => some .localToLocal
  | _ => none

/-- `Valid(dir)` and `Depth(dir)` (R381, R382): the bit depth of the transfer, or what an invalid
one is refused for. When both formats of a local-to-local transfer are invalid the spec does not
say which is named: a free choice (log entry 7). -/
def xferDepth (dir : XferDir) (buf : Word64) : Except Unmodelled Nat :=
  let spsm := bitbltbufSPSM buf
  let dpsm := bitbltbufDPSM buf
  match dir with
  | .hostToLocal =>
    match psmOf dpsm with
    | some p => .ok (bppOf p)
    | none => .error (.psm dpsm)
  | .localToHost =>
    match psmOf spsm with
    | some p => .ok (bppOf p)
    | none => .error (.psm spsm)
  | .localToLocal =>
    match psmOf spsm, psmOf dpsm with
    | some p, some q => if bppOf p = bppOf q then .ok (bppOf p) else .error (.depths (bppOf p) (bppOf q))
    | none, some _ => .error (.psm spsm)
    | some _, none => .error (.psm dpsm)
    | none, none => .error (.psm (if Config.namesSourcePsm spsm dpsm then spsm else dpsm))

/-- The engine with the transfer registers latched and its progress cleared (R383, R385). -/
def latchXfer (dir : XferDir) (s : State) : State :=
  s.setXfer { s.xfer with
    dir := dir
    buf := s.reg.bitbltbuf
    pos := s.reg.trxpos
    reg := s.reg.trxreg
    pixels := 0
    addr := 0
    streamBits := 0
    streamN := 0
    total := (trxregRRW s.reg.trxreg).toNat * (trxregRRH s.reg.trxreg).toNat }

/-- Sets `transfer_bit_depth`. -/
def setDepth (d : Nat) (s : State) : State := s.setXfer { s.xfer with bitDepth := d }

/-! ## Local to local (R389) -/

/-- One pixel of a local copy: read, then written if the read passed its checks (R397). -/
def copyPixel (k : Nat) (s : State) : State :=
  let off := xferXY s.xfer k (trxposDIR s.xfer.pos)
  let r := readSource off s
  countPixel (if r.1.2 then writeDest off r.1.1 r.2 else r.2)

/-- Pixels `k` to `k + n - 1` of a local copy, in order. -/
def copyPixels (n k : Nat) (s : State) : State :=
  match n with
  | 0 => s
  | n + 1 => copyPixels n (k + 1) (copyPixel k s)

/-- `LocalCopy()`. -/
def localCopy (s : State) : State := copyPixels s.xfer.total 0 s

/-- `TrxdirWrite(v)` (R383). -/
def trxdirWrite (v : Word64) (s : State) : State :=
  let s0 := s.setReg { s.reg with trxdir := v }
  match xferDirOf (trxdirXDIR v) with
  | none => cancelXfer s0
  | some dir =>
    let s1 := latchXfer dir s0
    match xferDepth dir s1.xfer.buf with
    | .error e => deactivate (setDepth 0 (raise (.unmodelled e) s1))
    | .ok d =>
      let s2 := setDepth d s1
      if s2.xfer.total = 0 then deactivate s2
      else if dir = .localToLocal then deactivate (localCopy s2)
      else s2.setXfer { s2.xfer with active := true }

/-! ## The HWREG port (R391 to R398) -/

/-- One pixel of a host-to-local transfer: the lowest bits of the stream (R392). -/
def takePixel (s : State) : State :=
  let x := s.xfer
  let p := BitVec.ofNat 32 (x.streamBits % 2 ^ x.bitDepth)
  let s1 := s.setXfer { x with
    streamBits := x.streamBits >>> x.bitDepth
    streamN := x.streamN - x.bitDepth }
  countPixel (writeDest (xferXY x x.pixels 0#2) p s1)

/-- The loop of R392: pixels are taken while the stream holds a whole one and some are left. `n`
bounds the rounds; the pixels left bound them too, so the loop ends by its own condition. -/
def takePixels (n : Nat) (s : State) : State :=
  match n with
  | 0 => s
  | n + 1 =>
    if s.xfer.bitDepth ≤ s.xfer.streamN ∧ s.xfer.pixels < s.xfer.total then takePixels n (takePixel s)
    else s

/-- 64 more bits at the end of the stream (R391). -/
def pushWord (v : Word64) (s : State) : State :=
  s.setXfer { s.xfer with
    streamBits := s.xfer.streamBits ||| (v.toNat <<< s.xfer.streamN)
    streamN := s.xfer.streamN + 64 }

/-- `HwregWrite(v)` (R392, R393, R396). -/
def hwregWrite (v : Word64) (s : State) : State :=
  if s.xfer.active = true ∧ s.xfer.dir = .hostToLocal then
    let s1 := pushWord v s
    let s2 := takePixels (s1.xfer.total - s1.xfer.pixels) s1
    if s2.xfer.pixels = s2.xfer.total then
      deactivate (s2.setXfer { s2.xfer with streamBits := 0, streamN := 0 })
    else s2
  else raise (.hwregInactive .write) s

/-- One pixel of a local-to-host transfer, appended to the stream (R394). -/
def givePixel (s : State) : State :=
  let r := readSource (xferXY s.xfer s.xfer.pixels 0#2) s
  let x := r.2.xfer
  countPixel (r.2.setXfer { x with
    streamBits := x.streamBits ||| ((r.1.1.toNat % 2 ^ x.bitDepth) <<< x.streamN)
    streamN := x.streamN + x.bitDepth })

/-- The loop of R394: pixels are fetched while the stream holds no whole word and some are left. -/
def givePixels (n : Nat) (s : State) : State :=
  match n with
  | 0 => s
  | n + 1 =>
    if s.xfer.streamN < 64 ∧ s.xfer.pixels < s.xfer.total then givePixels n (givePixel s)
    else s

/-- `HwregRead()` (R394 to R396): the word read and the state after it. -/
def hwregRead (s : State) : Word64 × State :=
  if s.xfer.active = true ∧ s.xfer.dir = .localToHost then
    let s1 := givePixels (s.xfer.total - s.xfer.pixels) s
    let r := BitVec.ofNat 64 s1.xfer.streamBits
    let s2 := s1.setXfer { s1.xfer with
      streamBits := s1.xfer.streamBits >>> 64
      streamN := s1.xfer.streamN - 64 }
    (r, if s2.xfer.pixels = s2.xfer.total ∧ s2.xfer.streamN = 0 then deactivate s2 else s2)
  else (0#64, raise (.hwregInactive .read) s)

end Sys2Proof.Machine
end

