-- ==== Sys2Proof/Machine/Vertex.lean ====
section
/-! DEFINITION. The primitive assembler (43_primitive_assembler.md R350 to R366). -/

namespace Sys2Proof.Machine

/-- `Capture(x, y, z)` (R350): the vertex of an XYZ write with the attributes current now. -/
def captureVertex (r : RegFile) (x y : BitVec 16) (z : BitVec 32) : Vertex where
  x := x
  y := y
  z := z
  f := fogF r.fog
  r := rgbaqR r.rgbaq
  g := rgbaqG r.rgbaq
  b := rgbaqB r.rgbaq
  a := rgbaqA r.rgbaq
  q := rgbaqQ r.rgbaq
  s := stS r.st
  t := stT r.st
  u := uvU r.uv
  v := uvV r.uv

/-- `NEEDED(t)` (R355). -/
def vertsNeeded (t : PrimType) : Nat :=
  match t with
  | .point => 1
  | .line => 2
  | .lineStrip => 2
  | .triangle => 3
  | .triangleStrip => 3
  | .triangleFan => 3
  | .sprite => 2
  | .reserved => 1

/-- `KEEP(t, vq)` (R355): strips keep all but the oldest vertex, a fan all but the second oldest,
the others none. -/
def vertsKept (t : PrimType) (vq : List Vertex) : List Vertex :=
  match t with
  | .point => []
  | .line => []
  | .lineStrip => vq.drop 1
  | .triangle => []
  | .triangleStrip => vq.drop 1
  | .triangleFan => vq.take 1 ++ vq.drop 2
  | .sprite => []
  | .reserved => []

/-- The draw event of a complete queue (R353). -/
def drawEvent (r : RegFile) (t : PrimType) (vq : List Vertex) : DrawEvent where
  type := t
  flags := effectiveFlags r
  ctxt := activeCtx r
  verts := vq.take (vertsNeeded t)

/-- `EmitDraw` (R354): the event is recorded and VRAM becomes what the rasterizer makes of it. -/
def emitDraw (t : PrimType) (s : State) : State :=
  let ev := drawEvent s.reg t s.vq
  { s with
    out := { s.out with draws := s.out.draws ++ [ev] }
    vram := writeWords s.cfg s.vram (Config.rasterize ev s.reg s.vram) }

/-- What a kick does with a complete queue (R352): a draw, or E_PRIM_RESERVED for type 7 (R363). -/
def kickPrim (s : State) : State :=
  match primTypeOf s.reg.prim with
  | .reserved => raise (.primReserved s.reg.prim) s
  | t => emitDraw t s

/-- `CommitVertex(x, y, z, kick)` (R352). -/
def commitVertex (x y : BitVec 16) (z : BitVec 32) (kick : Bool) (s : State) : State :=
  let t := primTypeOf s.reg.prim
  let s1 := s.setVq (s.vq ++ [captureVertex s.reg x y z])
  if s1.vq.length < vertsNeeded t then s1
  else
    let s2 := if kick then kickPrim s1 else s1
    s2.setVq (vertsKept t s2.vq)

end Sys2Proof.Machine
end

