-- ==== Sys2Proof/Machine/General.lean ====
section
/-! DEFINITION. General register writes (42_general_registers.md R280 to R336): one operation `put…`
for each register, the write port `writeReg` over them, and the meanings of the rows. -/

namespace Sys2Proof.Machine

/-! ## Registers that only store (R24) -/

/-- RGBAQ, id 0x01 (R283). -/
def putRgbaq (v : Word64) (s : State) : State :=
  s.setReg { s.reg with rgbaq := v }

/-- ST, id 0x02 (R284). -/
def putSt (v : Word64) (s : State) : State :=
  s.setReg { s.reg with st := v }

/-- UV, id 0x03 (R285). -/
def putUv (v : Word64) (s : State) : State :=
  s.setReg { s.reg with uv := v }

/-- FOG, id 0x0A (R292). -/
def putFog (v : Word64) (s : State) : State :=
  s.setReg { s.reg with fog := v }

/-- PRMODECONT, id 0x1A (R301). -/
def putPrmodecont (v : Word64) (s : State) : State :=
  s.setReg { s.reg with prmodecont := v }

/-- PRMODE, id 0x1B (R302). -/
def putPrmode (v : Word64) (s : State) : State :=
  s.setReg { s.reg with prmode := v }

/-- TEXCLUT, id 0x1C (R303). -/
def putTexclut (v : Word64) (s : State) : State :=
  s.setReg { s.reg with texclut := v }

/-- SCANMSK, id 0x22 (R304). -/
def putScanmsk (v : Word64) (s : State) : State :=
  s.setReg { s.reg with scanmsk := v }

/-- TEXA, id 0x3B (R309). -/
def putTexa (v : Word64) (s : State) : State :=
  s.setReg { s.reg with texa := v }

/-- FOGCOL, id 0x3D (R310). -/
def putFogcol (v : Word64) (s : State) : State :=
  s.setReg { s.reg with fogcol := v }

/-- DIMX, id 0x44 (R316). -/
def putDimx (v : Word64) (s : State) : State :=
  s.setReg { s.reg with dimx := v }

/-- DTHE, id 0x45 (R317). -/
def putDthe (v : Word64) (s : State) : State :=
  s.setReg { s.reg with dthe := v }

/-- COLCLAMP, id 0x46 (R318). -/
def putColclamp (v : Word64) (s : State) : State :=
  s.setReg { s.reg with colclamp := v }

/-- PABE, id 0x49 (R321). -/
def putPabe (v : Word64) (s : State) : State :=
  s.setReg { s.reg with pabe := v }

/-- BITBLTBUF, id 0x50 (R328). -/
def putBitbltbuf (v : Word64) (s : State) : State :=
  s.setReg { s.reg with bitbltbuf := v }

/-- TRXPOS, id 0x51 (R329). -/
def putTrxpos (v : Word64) (s : State) : State :=
  s.setReg { s.reg with trxpos := v }

/-- TRXREG, id 0x52 (R330). -/
def putTrxreg (v : Word64) (s : State) : State :=
  s.setReg { s.reg with trxreg := v }

/-! ## Paired registers written by their id -/

/-- TEX0, the copy the id names (R288, R289). -/
def putTex0 (c : Ctx) (v : Word64) (s : State) : State :=
  s.setReg { s.reg with tex0 := s.reg.tex0.set c v }

/-- CLAMP, the copy the id names (R290, R291). -/
def putClamp (c : Ctx) (v : Word64) (s : State) : State :=
  s.setReg { s.reg with clamp := s.reg.clamp.set c v }

/-- TEX1, the copy the id names (R295, R296). -/
def putTex1 (c : Ctx) (v : Word64) (s : State) : State :=
  s.setReg { s.reg with tex1 := s.reg.tex1.set c v }

/-- MIPTBP1, the copy the id names (R305, R306). -/
def putMiptbp1 (c : Ctx) (v : Word64) (s : State) : State :=
  s.setReg { s.reg with miptbp1 := s.reg.miptbp1.set c v }

/-- MIPTBP2, the copy the id names (R307, R308). -/
def putMiptbp2 (c : Ctx) (v : Word64) (s : State) : State :=
  s.setReg { s.reg with miptbp2 := s.reg.miptbp2.set c v }

/-- ALPHA, the copy the id names (R314, R315). -/
def putAlpha (c : Ctx) (v : Word64) (s : State) : State :=
  s.setReg { s.reg with alpha := s.reg.alpha.set c v }

/-- FBA, the copy the id names (R322, R323). -/
def putFba (c : Ctx) (v : Word64) (s : State) : State :=
  s.setReg { s.reg with fba := s.reg.fba.set c v }

/-- The bits of TEX0 that a TEX2 write replaces: PSM and the CLUT fields (R297). -/
def tex2Mask : Word64 := 0xFFFFFFE003F00000#64

/-- TEX2: merged into TEX0 of the same copy, no storage of its own (R297, R298). -/
def putTex2 (c : Ctx) (v : Word64) (s : State) : State :=
  putTex0 c ((s.reg.tex0.get c &&& ~~~tex2Mask) ||| (v &&& tex2Mask)) s

/-! ## Paired registers written in the active context (R281) -/

/-- XYOFFSET, by the id of copy `n` (R299, R300). -/
def putXyoffset (n : Ctx) (v : Word64) (s : State) : State :=
  s.setReg { s.reg with xyoffset := s.reg.xyoffset.set (ctxSel s.cfg s.reg n) v }

/-- SCISSOR, by the id of copy `n` (R312, R313). -/
def putScissor (n : Ctx) (v : Word64) (s : State) : State :=
  s.setReg { s.reg with scissor := s.reg.scissor.set (ctxSel s.cfg s.reg n) v }

/-- TEST, by the id of copy `n` (R319, R320). -/
def putTest (n : Ctx) (v : Word64) (s : State) : State :=
  s.setReg { s.reg with test := s.reg.test.set (ctxSel s.cfg s.reg n) v }

/-- FRAME, by the id of copy `n` (R324, R325). -/
def putFrame (n : Ctx) (v : Word64) (s : State) : State :=
  s.setReg { s.reg with frame := s.reg.frame.set (ctxSel s.cfg s.reg n) v }

/-- ZBUF, by the id of copy `n` (R326, R327). -/
def putZbuf (n : Ctx) (v : Word64) (s : State) : State :=
  s.setReg { s.reg with zbuf := s.reg.zbuf.set (ctxSel s.cfg s.reg n) v }

/-! ## Registers with further effects -/

/-- PRIM: every write empties the vertex queue (R282). -/
def putPrim (v : Word64) (s : State) : State :=
  (s.setReg { s.reg with prim := v }).setVq []

/-- FOG with its coefficient replaced by the F of an XYZF write, bits [55:0] kept (R286). -/
def fogWithF (fog v : Word64) : Word64 :=
  (fog &&& 0x00FFFFFFFFFFFFFF#64) ||| ((xyzfF v).setWidth 64 <<< 56)

/-- XYZF2: stored, F into FOG, a vertex committed with a kick (R286). -/
def putXyzf2 (v : Word64) (s : State) : State :=
  commitVertex (xyzfX v) (xyzfY v) ((xyzfZ v).setWidth 32) true
    (s.setReg { s.reg with xyzf2 := v, fog := fogWithF s.reg.fog v })

/-- XYZ2: stored, a vertex committed with a kick (R287). -/
def putXyz2 (v : Word64) (s : State) : State :=
  commitVertex (xyzX v) (xyzY v) (xyzZ v) true (s.setReg { s.reg with xyz2 := v })

/-- XYZF3: as XYZF2 without the kick (R293). -/
def putXyzf3 (v : Word64) (s : State) : State :=
  commitVertex (xyzfX v) (xyzfY v) ((xyzfZ v).setWidth 32) false
    (s.setReg { s.reg with xyzf3 := v, fog := fogWithF s.reg.fog v })

/-- XYZ3: as XYZ2 without the kick (R294). -/
def putXyz3 (v : Word64) (s : State) : State :=
  commitVertex (xyzX v) (xyzY v) (xyzZ v) false (s.setReg { s.reg with xyz3 := v })

/-- TEXFLUSH: nothing; there is no texture cache (R311). -/
def putTexflush (_v : Word64) (s : State) : State := s

/-- TRXDIR: arms, performs or ends a transfer (R331). -/
def putTrxdir (v : Word64) (s : State) : State := trxdirWrite v s

/-- HWREG: pixel data of a host-to-local transfer (R332). -/
def putHwreg (v : Word64) (s : State) : State := hwregWrite v s

/-- A 32-bit id replaced under a mask (R333, R335). -/
def mergeId (old id mask : Word32) : Word32 := (old &&& ~~~mask) ||| (id &&& mask)

/-- SIGNAL: merges its id into SIGLBLID.SIGID and sets CSR.SIGNAL; a SIGNAL that is still pending is
reported and the write performed all the same (R333). -/
def putSignal (v : Word64) (s : State) : State :=
  let s0 := if s.priv.csrSignal then raise (.unmodelled .signalPending) s else s
  s0.setPriv { s0.priv with
    siglblid := siglblidLBLID s0.priv.siglblid ++
      mergeId (siglblidSIGID s0.priv.siglblid) (signalID v) (signalIDMSK v)
    csrSignal := true }

/-- FINISH: sets CSR.FINISH (R334). -/
def putFinish (_v : Word64) (s : State) : State := s.setPriv { s.priv with csrFinish := true }

/-- LABEL: merges its id into SIGLBLID.LBLID (R335). -/
def putLabel (v : Word64) (s : State) : State :=
  s.setPriv { s.priv with
    siglblid := mergeId (siglblidLBLID s.priv.siglblid) (signalID v) (signalIDMSK v) ++
      siglblidSIGID s.priv.siglblid }

/-- A write to an id with no mapping: reported, no state changed (R336). -/
def putUnmapped (src : Src) (id : BitVec 8) (s : State) : State := raise (.unknownReg src id) s

/-! ## The write port (R280) -/

/-- The write of one general register. -/
def putReg (r : GReg) (v : Word64) (s : State) : State :=
  match r with
  | .prim => putPrim v s
  | .rgbaq => putRgbaq v s
  | .st => putSt v s
  | .uv => putUv v s
  | .xyzf2 => putXyzf2 v s
  | .xyz2 => putXyz2 v s
  | .tex0_1 => putTex0 .c1 v s
  | .tex0_2 => putTex0 .c2 v s
  | .clamp_1 => putClamp .c1 v s
  | .clamp_2 => putClamp .c2 v s
  | .fog => putFog v s
  | .xyzf3 => putXyzf3 v s
  | .xyz3 => putXyz3 v s
  | .tex1_1 => putTex1 .c1 v s
  | .tex1_2 => putTex1 .c2 v s
  | .tex2_1 => putTex2 .c1 v s
  | .tex2_2 => putTex2 .c2 v s
  | .xyoffset_1 => putXyoffset .c1 v s
  | .xyoffset_2 => putXyoffset .c2 v s
  | .prmodecont => putPrmodecont v s
  | .prmode => putPrmode v s
  | .texclut => putTexclut v s
  | .scanmsk => putScanmsk v s
  | .miptbp1_1 => putMiptbp1 .c1 v s
  | .miptbp1_2 => putMiptbp1 .c2 v s
  | .miptbp2_1 => putMiptbp2 .c1 v s
  | .miptbp2_2 => putMiptbp2 .c2 v s
  | .texa => putTexa v s
  | .fogcol => putFogcol v s
  | .texflush => putTexflush v s
  | .scissor_1 => putScissor .c1 v s
  | .scissor_2 => putScissor .c2 v s
  | .alpha_1 => putAlpha .c1 v s
  | .alpha_2 => putAlpha .c2 v s
  | .dimx => putDimx v s
  | .dthe => putDthe v s
  | .colclamp => putColclamp v s
  | .test_1 => putTest .c1 v s
  | .test_2 => putTest .c2 v s
  | .pabe => putPabe v s
  | .fba_1 => putFba .c1 v s
  | .fba_2 => putFba .c2 v s
  | .frame_1 => putFrame .c1 v s
  | .frame_2 => putFrame .c2 v s
  | .zbuf_1 => putZbuf .c1 v s
  | .zbuf_2 => putZbuf .c2 v s
  | .bitbltbuf => putBitbltbuf v s
  | .trxpos => putTrxpos v s
  | .trxreg => putTrxreg v s
  | .trxdir => putTrxdir v s
  | .hwreg => putHwreg v s
  | .signal => putSignal v s
  | .finish => putFinish v s
  | .label => putLabel v s

/-- `WriteReg(id, v, src)`: the source only names the path in an error record (R280). -/
def writeReg (id : BitVec 8) (v : Word64) (src : Src) (s : State) : State :=
  match GReg.ofId id with
  | some r => putReg r v s
  | none => putUnmapped src id s

/-! ## The meanings of the rows -/

/-- PRIM, id 0x00 (R282). -/
def execPrim (v : Word64) (s : State) : Outcome := .next (putPrim v s)

/-- RGBAQ, id 0x01 (R283). -/
def execRgbaq (v : Word64) (s : State) : Outcome := .next (putRgbaq v s)

/-- ST, id 0x02 (R284). -/
def execSt (v : Word64) (s : State) : Outcome := .next (putSt v s)

/-- UV, id 0x03 (R285). -/
def execUv (v : Word64) (s : State) : Outcome := .next (putUv v s)

/-- XYZF2, id 0x04 (R286). -/
def execXyzf2 (v : Word64) (s : State) : Outcome := .next (putXyzf2 v s)

/-- XYZ2, id 0x05 (R287). -/
def execXyz2 (v : Word64) (s : State) : Outcome := .next (putXyz2 v s)

/-- TEX0_1, id 0x06 (R288). -/
def execTex0_1 (v : Word64) (s : State) : Outcome := .next (putTex0 .c1 v s)

/-- TEX0_2, id 0x07 (R289). -/
def execTex0_2 (v : Word64) (s : State) : Outcome := .next (putTex0 .c2 v s)

/-- CLAMP_1, id 0x08 (R290). -/
def execClamp_1 (v : Word64) (s : State) : Outcome := .next (putClamp .c1 v s)

/-- CLAMP_2, id 0x09 (R291). -/
def execClamp_2 (v : Word64) (s : State) : Outcome := .next (putClamp .c2 v s)

/-- FOG, id 0x0A (R292). -/
def execFog (v : Word64) (s : State) : Outcome := .next (putFog v s)

/-- XYZF3, id 0x0C (R293). -/
def execXyzf3 (v : Word64) (s : State) : Outcome := .next (putXyzf3 v s)

/-- XYZ3, id 0x0D (R294). -/
def execXyz3 (v : Word64) (s : State) : Outcome := .next (putXyz3 v s)

/-- TEX1_1, id 0x14 (R295). -/
def execTex1_1 (v : Word64) (s : State) : Outcome := .next (putTex1 .c1 v s)

/-- TEX1_2, id 0x15 (R296). -/
def execTex1_2 (v : Word64) (s : State) : Outcome := .next (putTex1 .c2 v s)

/-- TEX2_1, id 0x16 (R297). -/
def execTex2_1 (v : Word64) (s : State) : Outcome := .next (putTex2 .c1 v s)

/-- TEX2_2, id 0x17 (R298). -/
def execTex2_2 (v : Word64) (s : State) : Outcome := .next (putTex2 .c2 v s)

/-- XYOFFSET_1, id 0x18 (R299). -/
def execXyoffset_1 (v : Word64) (s : State) : Outcome := .next (putXyoffset .c1 v s)

/-- XYOFFSET_2, id 0x19 (R300). -/
def execXyoffset_2 (v : Word64) (s : State) : Outcome := .next (putXyoffset .c2 v s)

/-- PRMODECONT, id 0x1A (R301). -/
def execPrmodecont (v : Word64) (s : State) : Outcome := .next (putPrmodecont v s)

/-- PRMODE, id 0x1B (R302). -/
def execPrmode (v : Word64) (s : State) : Outcome := .next (putPrmode v s)

/-- TEXCLUT, id 0x1C (R303). -/
def execTexclut (v : Word64) (s : State) : Outcome := .next (putTexclut v s)

/-- SCANMSK, id 0x22 (R304). -/
def execScanmsk (v : Word64) (s : State) : Outcome := .next (putScanmsk v s)

/-- MIPTBP1_1, id 0x34 (R305). -/
def execMiptbp1_1 (v : Word64) (s : State) : Outcome := .next (putMiptbp1 .c1 v s)

/-- MIPTBP1_2, id 0x35 (R306). -/
def execMiptbp1_2 (v : Word64) (s : State) : Outcome := .next (putMiptbp1 .c2 v s)

/-- MIPTBP2_1, id 0x36 (R307). -/
def execMiptbp2_1 (v : Word64) (s : State) : Outcome := .next (putMiptbp2 .c1 v s)

/-- MIPTBP2_2, id 0x37 (R308). -/
def execMiptbp2_2 (v : Word64) (s : State) : Outcome := .next (putMiptbp2 .c2 v s)

/-- TEXA, id 0x3B (R309). -/
def execTexa (v : Word64) (s : State) : Outcome := .next (putTexa v s)

/-- FOGCOL, id 0x3D (R310). -/
def execFogcol (v : Word64) (s : State) : Outcome := .next (putFogcol v s)

/-- TEXFLUSH, id 0x3F (R311). -/
def execTexflush (v : Word64) (s : State) : Outcome := .next (putTexflush v s)

/-- SCISSOR_1, id 0x40 (R312). -/
def execScissor_1 (v : Word64) (s : State) : Outcome := .next (putScissor .c1 v s)

/-- SCISSOR_2, id 0x41 (R313). -/
def execScissor_2 (v : Word64) (s : State) : Outcome := .next (putScissor .c2 v s)

/-- ALPHA_1, id 0x42 (R314). -/
def execAlpha_1 (v : Word64) (s : State) : Outcome := .next (putAlpha .c1 v s)

/-- ALPHA_2, id 0x43 (R315). -/
def execAlpha_2 (v : Word64) (s : State) : Outcome := .next (putAlpha .c2 v s)

/-- DIMX, id 0x44 (R316). -/
def execDimx (v : Word64) (s : State) : Outcome := .next (putDimx v s)

/-- DTHE, id 0x45 (R317). -/
def execDthe (v : Word64) (s : State) : Outcome := .next (putDthe v s)

/-- COLCLAMP, id 0x46 (R318). -/
def execColclamp (v : Word64) (s : State) : Outcome := .next (putColclamp v s)

/-- TEST_1, id 0x47 (R319). -/
def execTest_1 (v : Word64) (s : State) : Outcome := .next (putTest .c1 v s)

/-- TEST_2, id 0x48 (R320). -/
def execTest_2 (v : Word64) (s : State) : Outcome := .next (putTest .c2 v s)

/-- PABE, id 0x49 (R321). -/
def execPabe (v : Word64) (s : State) : Outcome := .next (putPabe v s)

/-- FBA_1, id 0x4A (R322). -/
def execFba_1 (v : Word64) (s : State) : Outcome := .next (putFba .c1 v s)

/-- FBA_2, id 0x4B (R323). -/
def execFba_2 (v : Word64) (s : State) : Outcome := .next (putFba .c2 v s)

/-- FRAME_1, id 0x4C (R324). -/
def execFrame_1 (v : Word64) (s : State) : Outcome := .next (putFrame .c1 v s)

/-- FRAME_2, id 0x4D (R325). -/
def execFrame_2 (v : Word64) (s : State) : Outcome := .next (putFrame .c2 v s)

/-- ZBUF_1, id 0x4E (R326). -/
def execZbuf_1 (v : Word64) (s : State) : Outcome := .next (putZbuf .c1 v s)

/-- ZBUF_2, id 0x4F (R327). -/
def execZbuf_2 (v : Word64) (s : State) : Outcome := .next (putZbuf .c2 v s)

/-- BITBLTBUF, id 0x50 (R328). -/
def execBitbltbuf (v : Word64) (s : State) : Outcome := .next (putBitbltbuf v s)

/-- TRXPOS, id 0x51 (R329). -/
def execTrxpos (v : Word64) (s : State) : Outcome := .next (putTrxpos v s)

/-- TRXREG, id 0x52 (R330). -/
def execTrxreg (v : Word64) (s : State) : Outcome := .next (putTrxreg v s)

/-- TRXDIR, id 0x53 (R331). -/
def execTrxdir (v : Word64) (s : State) : Outcome := .next (putTrxdir v s)

/-- HWREG, id 0x54 (R332). -/
def execHwreg (v : Word64) (s : State) : Outcome := .next (putHwreg v s)

/-- SIGNAL, id 0x60 (R333). -/
def execSignal (v : Word64) (s : State) : Outcome := .next (putSignal v s)

/-- FINISH, id 0x61 (R334). -/
def execFinish (v : Word64) (s : State) : Outcome := .next (putFinish v s)

/-- LABEL, id 0x62 (R335). -/
def execLabel (v : Word64) (s : State) : Outcome := .next (putLabel v s)

/-- UNMAPPED_ID (R336). -/
def execUnmappedId (src : Src) (id : BitVec 8) (_v : Word64) (s : State) : Outcome :=
  .next (putUnmapped src id s)

end Sys2Proof.Machine
end

