-- ==== Sys2Proof/Machine/Packed.lean ====
section
/-! DEFINITION. PACKED payload descriptors (41_packed.md R250 to R266). A descriptor writes state
only through `writeReg`, plus `packed_Q` for ST; the decoder's counters are the host call's
(40_gif_decoder.md R211). -/

namespace Sys2Proof.Machine

/-- Descriptor 0x0, PRIM (R251). -/
def packPrim (prim : BitVec 11) (s : State) : State :=
  writeReg 0x00#8 (prim.setWidth 64) .packed s

/-- Descriptor 0x1, RGBAQ: Q is the latched `packed_Q` (R252). -/
def packRgbaq (r g b a : BitVec 8) (s : State) : State :=
  writeReg 0x01#8
    (r.setWidth 64 ||| g.setWidth 64 <<< 8 ||| b.setWidth 64 <<< 16 ||| a.setWidth 64 <<< 24 |||
      s.dec.packedQ.setWidth 64 <<< 32) .packed s

/-- Latches Q for the next PACKED RGBAQ (R253). -/
def latchQ (q : BitVec 32) (s : State) : State := s.setDec { s.dec with packedQ := q }

/-- Descriptor 0x2, ST (R253). -/
def packSt (sc tc qc : BitVec 32) (s : State) : State :=
  latchQ qc (writeReg 0x02#8 (sc.setWidth 64 ||| tc.setWidth 64 <<< 32) .packed s)

/-- Descriptor 0x3, UV (R254). -/
def packUv (uc vc : BitVec 14) (s : State) : State :=
  writeReg 0x03#8 (uc.setWidth 64 ||| vc.setWidth 64 <<< 16) .packed s

/-- The register value of a PACKED XYZF qword (R255). -/
def packedXyzf (x y : BitVec 16) (z : BitVec 24) (f : BitVec 8) : Word64 :=
  x.setWidth 64 ||| y.setWidth 64 <<< 16 ||| z.setWidth 64 <<< 32 ||| f.setWidth 64 <<< 56

/-- The register value of a PACKED XYZ qword (R256). -/
def packedXyz (x y : BitVec 16) (z : BitVec 32) : Word64 :=
  x.setWidth 64 ||| y.setWidth 64 <<< 16 ||| z.setWidth 64 <<< 32

/-- Descriptor 0x4, XYZF2; ADC = 1 makes it XYZF3, without the kick (R255). -/
def packXyzf2 (x y : BitVec 16) (z : BitVec 24) (f : BitVec 8) (adc : Bool) (s : State) : State :=
  writeReg (if adc then 0x0C#8 else 0x04#8) (packedXyzf x y z f) .packed s

/-- Descriptor 0x5, XYZ2; ADC = 1 makes it XYZ3, without the kick (R256). -/
def packXyz2 (x y : BitVec 16) (z : BitVec 32) (adc : Bool) (s : State) : State :=
  writeReg (if adc then 0x0D#8 else 0x05#8) (packedXyz x y z) .packed s

/-- Descriptors 0x6 to 0x9, TEX0_1, TEX0_2, CLAMP_1, CLAMP_2: the register write (R257 to R260). -/
def packData (id : BitVec 8) (v : Word64) (s : State) : State := writeReg id v .packed s

/-- Descriptor 0xA, FOG: bits [55:0] become 0 (R261). -/
def packFog (f : BitVec 8) (s : State) : State :=
  writeReg 0x0A#8 (f.setWidth 64 <<< 56) .packed s

/-- Descriptor 0xB, reserved (R262). -/
def packReservedB (s : State) : State := raise (.unknownReg .packed 0x0B#8) s

/-- Descriptor 0xC, XYZF3; ADC is ignored (R263). -/
def packXyzf3 (x y : BitVec 16) (z : BitVec 24) (f : BitVec 8) (s : State) : State :=
  writeReg 0x0C#8 (packedXyzf x y z f) .packed s

/-- Descriptor 0xD, XYZ3; ADC is ignored (R264). -/
def packXyz3 (x y : BitVec 16) (z : BitVec 32) (s : State) : State :=
  writeReg 0x0D#8 (packedXyz x y z) .packed s

/-- Descriptor 0xE, A+D: any general register by its id (R265). -/
def packAD (addr : BitVec 8) (v : Word64) (s : State) : State := writeReg addr v .ad s

/-- Descriptor 0xF, NOP (R266). -/
def packNop (s : State) : State := s

/-- `PackedWrite(d, q)` (R250). -/
def packedWrite (d : BitVec 4) (q : Qword) (s : State) : State :=
  match d with
  | 0x0#4 => packPrim (pkPrim_prim q) s
  | 0x1#4 => packRgbaq (pkRgbaq_r q) (pkRgbaq_g q) (pkRgbaq_b q) (pkRgbaq_a q) s
  | 0x2#4 => packSt (pkSt_sc q) (pkSt_tc q) (pkSt_qc q) s
  | 0x3#4 => packUv (pkUv_uc q) (pkUv_vc q) s
  | 0x4#4 => packXyzf2 (pkXyzf2_x q) (pkXyzf2_y q) (pkXyzf2_z q) (pkXyzf2_f q) (pkXyzf2_adc q) s
  | 0x5#4 => packXyz2 (pkXyz2_x q) (pkXyz2_y q) (pkXyz2_z q) (pkXyz2_adc q) s
  | 0x6#4 => packData 0x06#8 (pkTex0_1_v q) s
  | 0x7#4 => packData 0x07#8 (pkTex0_2_v q) s
  | 0x8#4 => packData 0x08#8 (pkClamp_1_v q) s
  | 0x9#4 => packData 0x09#8 (pkClamp_2_v q) s
  | 0xA#4 => packFog (pkFog_f q) s
  | 0xB#4 => packReservedB s
  | 0xC#4 => packXyzf3 (pkXyzf3_x q) (pkXyzf3_y q) (pkXyzf3_z q) (pkXyzf3_f q) s
  | 0xD#4 => packXyz3 (pkXyz3_x q) (pkXyz3_y q) (pkXyz3_z q) s
  | 0xE#4 => packAD (pkAD_addr q) (pkAD_v q) s
  | _ => packNop s

/-! ## The meanings of the rows -/

/-- PK_PRIM (R251). -/
def execPkPrim (prim : BitVec 11) (s : State) : Outcome :=
  .next (packPrim prim s)

/-- PK_RGBAQ (R252). -/
def execPkRgbaq (r : BitVec 8) (g : BitVec 8) (b : BitVec 8) (a : BitVec 8) (s : State) : Outcome :=
  .next (packRgbaq r g b a s)

/-- PK_ST (R253). -/
def execPkSt (sc : BitVec 32) (tc : BitVec 32) (qc : BitVec 32) (s : State) : Outcome :=
  .next (packSt sc tc qc s)

/-- PK_UV (R254). -/
def execPkUv (uc : BitVec 14) (vc : BitVec 14) (s : State) : Outcome :=
  .next (packUv uc vc s)

/-- PK_XYZF2 (R255). -/
def execPkXyzf2 (x : BitVec 16) (y : BitVec 16) (z : BitVec 24) (f : BitVec 8) (adc : Bool) (s : State) : Outcome :=
  .next (packXyzf2 x y z f adc s)

/-- PK_XYZ2 (R256). -/
def execPkXyz2 (x : BitVec 16) (y : BitVec 16) (z : BitVec 32) (adc : Bool) (s : State) : Outcome :=
  .next (packXyz2 x y z adc s)

/-- PK_TEX0_1 (R257). -/
def execPkTex0_1 (v : BitVec 64) (s : State) : Outcome :=
  .next (packData 0x06#8 v s)

/-- PK_TEX0_2 (R258). -/
def execPkTex0_2 (v : BitVec 64) (s : State) : Outcome :=
  .next (packData 0x07#8 v s)

/-- PK_CLAMP_1 (R259). -/
def execPkClamp_1 (v : BitVec 64) (s : State) : Outcome :=
  .next (packData 0x08#8 v s)

/-- PK_CLAMP_2 (R260). -/
def execPkClamp_2 (v : BitVec 64) (s : State) : Outcome :=
  .next (packData 0x09#8 v s)

/-- PK_FOG (R261). -/
def execPkFog (f : BitVec 8) (s : State) : Outcome :=
  .next (packFog f s)

/-- PK_RESERVED_B (R262). -/
def execPkReservedB (s : State) : Outcome :=
  .next (packReservedB s)

/-- PK_XYZF3 (R263). -/
def execPkXyzf3 (x : BitVec 16) (y : BitVec 16) (z : BitVec 24) (f : BitVec 8) (_adc : Bool) (s : State) : Outcome :=
  .next (packXyzf3 x y z f s)

/-- PK_XYZ3 (R264). -/
def execPkXyz3 (x : BitVec 16) (y : BitVec 16) (z : BitVec 32) (_adc : Bool) (s : State) : Outcome :=
  .next (packXyz3 x y z s)

/-- PK_A_D (R265). -/
def execPkAD (addr : BitVec 8) (v : BitVec 64) (s : State) : Outcome :=
  .next (packAD addr v s)

/-- PK_NOP (R266). -/
def execPkNop (s : State) : Outcome :=
  .next (packNop s)

end Sys2Proof.Machine
end

