-- ==== Sys2Proof/Machine/Reglist.lean ====
section
/-! DEFINITION. REGLIST slots (40_gif_decoder.md R218). -/

namespace Sys2Proof.Machine

/-- `ReglistWrite(d, v)` (R218): descriptors 0xE and 0xF write nothing, any other is the general
register write of that id in the register's own format. -/
def reglistWrite (d : BitVec 4) (v : Word64) (s : State) : State :=
  if d = 0xE#4 ∨ d = 0xF#4 then s else writeReg (d.setWidth 8) v .reglist s

/-! ## The meanings of the rows -/

/-- RL_PRIM (R218). -/
def execRlPrim (v : Word64) (s : State) : Outcome := .next (reglistWrite 0x0#4 v s)

/-- RL_RGBAQ (R218). -/
def execRlRgbaq (v : Word64) (s : State) : Outcome := .next (reglistWrite 0x1#4 v s)

/-- RL_ST (R218). -/
def execRlSt (v : Word64) (s : State) : Outcome := .next (reglistWrite 0x2#4 v s)

/-- RL_UV (R218). -/
def execRlUv (v : Word64) (s : State) : Outcome := .next (reglistWrite 0x3#4 v s)

/-- RL_XYZF2 (R218). -/
def execRlXyzf2 (v : Word64) (s : State) : Outcome := .next (reglistWrite 0x4#4 v s)

/-- RL_XYZ2 (R218). -/
def execRlXyz2 (v : Word64) (s : State) : Outcome := .next (reglistWrite 0x5#4 v s)

/-- RL_TEX0_1 (R218). -/
def execRlTex0_1 (v : Word64) (s : State) : Outcome := .next (reglistWrite 0x6#4 v s)

/-- RL_TEX0_2 (R218). -/
def execRlTex0_2 (v : Word64) (s : State) : Outcome := .next (reglistWrite 0x7#4 v s)

/-- RL_CLAMP_1 (R218). -/
def execRlClamp_1 (v : Word64) (s : State) : Outcome := .next (reglistWrite 0x8#4 v s)

/-- RL_CLAMP_2 (R218). -/
def execRlClamp_2 (v : Word64) (s : State) : Outcome := .next (reglistWrite 0x9#4 v s)

/-- RL_FOG (R218). -/
def execRlFog (v : Word64) (s : State) : Outcome := .next (reglistWrite 0xA#4 v s)

/-- RL_RESERVED_B (R218, R336). -/
def execRlReservedB (v : Word64) (s : State) : Outcome := .next (reglistWrite 0xB#4 v s)

/-- RL_XYZF3 (R218). -/
def execRlXyzf3 (v : Word64) (s : State) : Outcome := .next (reglistWrite 0xC#4 v s)

/-- RL_XYZ3 (R218). -/
def execRlXyz3 (v : Word64) (s : State) : Outcome := .next (reglistWrite 0xD#4 v s)

/-- RL_NONE_E (R218). -/
def execRlNoneE (v : Word64) (s : State) : Outcome := .next (reglistWrite 0xE#4 v s)

/-- RL_NONE_F (R218). -/
def execRlNoneF (v : Word64) (s : State) : Outcome := .next (reglistWrite 0xF#4 v s)

end Sys2Proof.Machine
end

