-- ==== Sys2Proof/Machine/Gif.lean ====
section
/-! DEFINITION. The GIF packet decoder (40_gif_decoder.md R200 to R221). -/

namespace Sys2Proof.Machine

/-! ## Tags (R204 to R210, R214, R215) -/

/-- `TagExhausted()` on the decoder: the next qword is a tag, and EOP = 1 ends the packet. -/
def exhaustTag (d : Decoder) : Decoder :=
  { d with
    regsLeft := 0
    dataLeft := 0
    decState := .awaitingTag
    packetOpen := d.packetOpen && !d.tag.eop }

/-- The tag fields latched, `reg_count` computed and the packet opened on its path (R204 to R206). -/
def latchTag (path : Path) (flg : BitVec 2) (t : TagFields) (d : Decoder) : Decoder :=
  { d with
    tag := { nloop := t.nloop, eop := t.eop, pre := t.pre, prim := t.prim, flg := flg,
             nreg := t.nreg, regs := t.regs }
    regCount := regCountOf t.nreg
    packetOpen := true
    packetPath := path }

/-- The payload units a tag declares: qwords of PACKED and IMAGE, slots of REGLIST (R208). -/
def payloadUnits (flg : BitVec 2) (t : TagFields) : Nat :=
  match formatOf flg with
  | .packed => t.nloop.toNat * regCountOf t.nreg
  | .reglist => t.nloop.toNat * regCountOf t.nreg
  | .image => t.nloop.toNat

/-- The payload counters of a latched tag (R208); a tag without payload is exhausted at once
(R210). -/
def startPayload (flg : BitVec 2) (t : TagFields) (d : Decoder) : Decoder :=
  let regs :=
    match formatOf flg with
    | .packed => regCountOf t.nreg
    | .reglist => regCountOf t.nreg
    | .image => 0
  let d1 := { d with regsLeft := regs, dataLeft := payloadUnits flg t }
  if d1.dataLeft = 0 then exhaustTag d1 else { d1 with decState := .processing }

/-- `DecodeTag` (R204): the fields are latched, PRE = 1 writes PRIM (R207), the counters start. -/
def readTag (path : Path) (flg : BitVec 2) (t : TagFields) (s : State) : State :=
  let s1 := s.setDec (latchTag path flg t s.dec)
  let s2 := if t.pre then writeReg 0x00#8 (t.prim.setWidth 64) .tag s1 else s1
  s2.setDec (startPayload flg t s2.dec)

/-! ## Payload (R211 to R213) -/

/-- The descriptor of the next payload unit. -/
def nextDescriptor (d : Decoder) : BitVec 4 := descriptorAt d.tag.regs (d.regCount - d.regsLeft)

/-- The counters after one descriptor's unit: exhausted, or the next descriptor, cyclically. -/
def countUnit (d : Decoder) : Decoder :=
  let d1 := { d with regsLeft := d.regsLeft - 1, dataLeft := d.dataLeft - 1 }
  if d1.dataLeft = 0 then exhaustTag d1
  else if d1.regsLeft = 0 then { d1 with regsLeft := d1.regCount }
  else d1

/-- `PackedStep(q)` (R211). -/
def packedStep (q : Qword) (s : State) : State :=
  let s1 := packedWrite (nextDescriptor s.dec) q s
  s1.setDec (countUnit s1.dec)

/-- One slot of a REGLIST qword (R212). -/
def slotStep (v : Word64) (s : State) : State :=
  let s1 := reglistWrite (nextDescriptor s.dec) v s
  s1.setDec (countUnit s1.dec)

/-- `ReglistStep(q)` (R212): the low slot, then the high one unless the tag was exhausted. -/
def reglistStep (q : Qword) (s : State) : State :=
  let s1 := slotStep (q.extractLsb' 0 64) s
  if s1.dec.dataLeft = 0 then s1 else slotStep (q.extractLsb' 64 64) s1

/-- The counter after one IMAGE qword (R213). -/
def countImage (d : Decoder) : Decoder :=
  let d1 := { d with dataLeft := d.dataLeft - 1 }
  if d1.dataLeft = 0 then exhaustTag d1 else d1

/-- The transfer data of an IMAGE qword: the low half, then the high half unless the low half
completed the transfer (R213). -/
def imageData (q : Qword) (s : State) : State :=
  let s1 := hwregWrite (q.extractLsb' 0 64) s
  if s.xfer.active = true ∧ s1.xfer.active = false then s1
  else hwregWrite (q.extractLsb' 64 64) s1

/-- `ImageStep(q)` (R213). -/
def imageStep (q : Qword) (s : State) : State :=
  let s1 := imageData q s
  s1.setDec (countImage s1.dec)

/-! ## Ingress (R200 to R203) -/

/-- A payload qword, in the format of the current tag (R203). -/
def payloadStep (q : Qword) (s : State) : State :=
  match formatOf s.dec.tag.flg with
  | .packed => packedStep q s
  | .reglist => reglistStep q s
  | .image => imageStep q s

/-- `OnQword(path, q)` (R200): a qword of the other path is refused while a packet is open (R202). -/
def onQword (path : Path) (q : Qword) (s : State) : State :=
  if s.dec.packetOpen = true ∧ path ≠ s.dec.packetPath then
    raise (.pathInterleave path s.dec.packetPath) s
  else
    match s.dec.decState with
    | .awaitingTag => readTag path (tagFlg q) (tagFields s.cfg.nloopBits q) s
    | .processing => payloadStep q s

/-- `end_of_stream(path)` (R216): truncation is reported, nothing changes. -/
def endOfStream (path : Path) (s : State) : State :=
  if s.dec.packetOpen = true ∧ path = s.dec.packetPath then
    match s.dec.decState with
    | .processing => raise (.truncatedPayload s.dec.dataLeft) s
    | .awaitingTag => raise .truncatedNoEop s
  else s

/-! ## The meanings of the rows -/

/-- GIFTAG_PACKED, FLG 0 (R204, R208). -/
def execGiftagPacked (path : Path) (t : TagFields) (s : State) : Outcome :=
  .next (readTag path 0#2 t s)

/-- GIFTAG_REGLIST, FLG 1 (R204, R208). -/
def execGiftagReglist (path : Path) (t : TagFields) (s : State) : Outcome :=
  .next (readTag path 1#2 t s)

/-- GIFTAG_IMAGE, FLG 2 (R204, R208). -/
def execGiftagImage (path : Path) (t : TagFields) (s : State) : Outcome :=
  .next (readTag path 2#2 t s)

/-- GIFTAG_FLG3, FLG 3, in every respect an IMAGE tag (R209). -/
def execGiftagFlg3 (path : Path) (t : TagFields) (s : State) : Outcome :=
  .next (readTag path 3#2 t s)

/-- IMAGE_QWORD (R213). -/
def execImageQword (q : Qword) (s : State) : Outcome := .next (imageStep q s)

end Sys2Proof.Machine
end

