-- ==== Sys2Proof/Machine/Privileged.lean ====
section
/-! DEFINITION. Privileged registers (45_privileged_registers.md R430 to R454): storage under a mask
and read-back, CSR apart. -/

namespace Sys2Proof.Machine

/-- `preg[NAME]`, and for CSR the value composed by R451: `PrivRead(NAME)` (R434). -/
def privRead (cfg : Params) (p : PrivRegs) (r : PrivReg) : Word64 :=
  match r with
  | .pmode => p.pmode
  | .smode1 => p.smode1
  | .smode2 => p.smode2
  | .srfsh => p.srfsh
  | .synch1 => p.synch1
  | .synch2 => p.synch2
  | .syncv => p.syncv
  | .dispfb1 => p.dispfb1
  | .display1 => p.display1
  | .dispfb2 => p.dispfb2
  | .display2 => p.display2
  | .extbuf => p.extbuf
  | .extdata => p.extdata
  | .extwrite => p.extwrite
  | .bgcolor => p.bgcolor
  | .csr => csrRead cfg p
  | .imr => p.imr
  | .busdir => p.busdir
  | .siglblid => p.siglblid

/-- The bits of `m` replaced by those of `w` (R433). -/
def maskMerge (old w m : Word64) : Word64 := (old &&& ~~~m) ||| (w &&& m)

/-- The register file after a masked write of a stored register; CSR has no storage. -/
def privStore (r : PrivReg) (w m : Word64) (p : PrivRegs) : PrivRegs :=
  match r with
  | .pmode => { p with pmode := maskMerge p.pmode w m }
  | .smode1 => { p with smode1 := maskMerge p.smode1 w m }
  | .smode2 => { p with smode2 := maskMerge p.smode2 w m }
  | .srfsh => { p with srfsh := maskMerge p.srfsh w m }
  | .synch1 => { p with synch1 := maskMerge p.synch1 w m }
  | .synch2 => { p with synch2 := maskMerge p.synch2 w m }
  | .syncv => { p with syncv := maskMerge p.syncv w m }
  | .dispfb1 => { p with dispfb1 := maskMerge p.dispfb1 w m }
  | .display1 => { p with display1 := maskMerge p.display1 w m }
  | .dispfb2 => { p with dispfb2 := maskMerge p.dispfb2 w m }
  | .display2 => { p with display2 := maskMerge p.display2 w m }
  | .extbuf => { p with extbuf := maskMerge p.extbuf w m }
  | .extdata => { p with extdata := maskMerge p.extdata w m }
  | .extwrite => { p with extwrite := maskMerge p.extwrite w m }
  | .bgcolor => { p with bgcolor := maskMerge p.bgcolor w m }
  | .csr => p
  | .imr => { p with imr := maskMerge p.imr w m }
  | .busdir => { p with busdir := maskMerge p.busdir w m }
  | .siglblid => { p with siglblid := maskMerge p.siglblid w m }

/-- `PrivWrite(NAME, w, m)` (R433): a masked store, and for CSR the write of R450 with the bits
[31:0] that the mask covers. -/
def privWrite (r : PrivReg) (w m : Word64) (s : State) : State :=
  match r with
  | .csr => csrWrite ((w &&& m).setWidth 32) s
  | r => s.setPriv (privStore r w m s.priv)

/-- The half of a register value. -/
def partOf (part : Part) (v : Word64) : Word32 :=
  match part with
  | .low => v.extractLsb' 0 32
  | .high => v.extractLsb' 32 32

/-- A mapped access to a privileged register (R431 to R434). -/
def privAccess (r : PrivReg) (acc : PrivAccess) (s : State) : State :=
  match acc with
  | .write64 v => privWrite r v 0xFFFFFFFFFFFFFFFF#64 s
  | .write32 .low v => privWrite r (v.setWidth 64) 0x00000000FFFFFFFF#64 s
  | .write32 .high v => privWrite r (v.setWidth 64 <<< 32) 0xFFFFFFFF00000000#64 s
  | .read32 part => setResult (.word32 (partOf part (privRead s.cfg s.priv r))) s

/-- An access without a mapping: reported, and a `read32` has no value (R431). -/
def privUnmapped (op : HostOp) (addr : Word32) (s : State) : State :=
  match op with
  | .w64 => raise (.unknownAddr .w64 addr) s
  | .w32 => raise (.unknownAddr .w32 addr) s
  | .r32 => setResult .noValue (raise (.unknownAddr .r32 addr) s)

/-! ## The meanings of the rows -/

/-- PRIV_PMODE, 0x12000000 (R435). -/
def execPrivPmode (acc : PrivAccess) (s : State) : Outcome := .next (privAccess .pmode acc s)

/-- PRIV_SMODE1, 0x12000010 (R436). -/
def execPrivSmode1 (acc : PrivAccess) (s : State) : Outcome := .next (privAccess .smode1 acc s)

/-- PRIV_SMODE2, 0x12000020 (R437). -/
def execPrivSmode2 (acc : PrivAccess) (s : State) : Outcome := .next (privAccess .smode2 acc s)

/-- PRIV_SRFSH, 0x12000030 (R438). -/
def execPrivSrfsh (acc : PrivAccess) (s : State) : Outcome := .next (privAccess .srfsh acc s)

/-- PRIV_SYNCH1, 0x12000040 (R439). -/
def execPrivSynch1 (acc : PrivAccess) (s : State) : Outcome := .next (privAccess .synch1 acc s)

/-- PRIV_SYNCH2, 0x12000050 (R440). -/
def execPrivSynch2 (acc : PrivAccess) (s : State) : Outcome := .next (privAccess .synch2 acc s)

/-- PRIV_SYNCV, 0x12000060 (R441). -/
def execPrivSyncv (acc : PrivAccess) (s : State) : Outcome := .next (privAccess .syncv acc s)

/-- PRIV_DISPFB1, 0x12000070 (R442). -/
def execPrivDispfb1 (acc : PrivAccess) (s : State) : Outcome := .next (privAccess .dispfb1 acc s)

/-- PRIV_DISPLAY1, 0x12000080 (R443). -/
def execPrivDisplay1 (acc : PrivAccess) (s : State) : Outcome := .next (privAccess .display1 acc s)

/-- PRIV_DISPFB2, 0x12000090 (R444). -/
def execPrivDispfb2 (acc : PrivAccess) (s : State) : Outcome := .next (privAccess .dispfb2 acc s)

/-- PRIV_DISPLAY2, 0x120000A0 (R445). -/
def execPrivDisplay2 (acc : PrivAccess) (s : State) : Outcome := .next (privAccess .display2 acc s)

/-- PRIV_EXTBUF, 0x120000B0 (R446). -/
def execPrivExtbuf (acc : PrivAccess) (s : State) : Outcome := .next (privAccess .extbuf acc s)

/-- PRIV_EXTDATA, 0x120000C0 (R447). -/
def execPrivExtdata (acc : PrivAccess) (s : State) : Outcome := .next (privAccess .extdata acc s)

/-- PRIV_EXTWRITE, 0x120000D0 (R448). -/
def execPrivExtwrite (acc : PrivAccess) (s : State) : Outcome := .next (privAccess .extwrite acc s)

/-- PRIV_BGCOLOR, 0x120000E0 (R449). -/
def execPrivBgcolor (acc : PrivAccess) (s : State) : Outcome := .next (privAccess .bgcolor acc s)

/-- PRIV_CSR, 0x12001000 (R450, R451). -/
def execPrivCsr (acc : PrivAccess) (s : State) : Outcome := .next (privAccess .csr acc s)

/-- PRIV_IMR, 0x12001010 (R452). -/
def execPrivImr (acc : PrivAccess) (s : State) : Outcome := .next (privAccess .imr acc s)

/-- PRIV_BUSDIR, 0x12001040 (R453). -/
def execPrivBusdir (acc : PrivAccess) (s : State) : Outcome := .next (privAccess .busdir acc s)

/-- PRIV_SIGLBLID, 0x12001080 (R454). -/
def execPrivSiglblid (acc : PrivAccess) (s : State) : Outcome := .next (privAccess .siglblid acc s)

/-- PRIV_UNMAPPED (R431). -/
def execPrivUnmapped (op : HostOp) (addr : Word32) (s : State) : Outcome :=
  .next (privUnmapped op addr s)

end Sys2Proof.Machine
end

