-- ==== Sys2Proof/Machine/HostCalls.lean ====
section
/-! DEFINITION. The host calls (40_gif_decoder.md R200, R216; 44_transfer_engine.md R394;
45_privileged_registers.md R432 to R434, R455 to R457; 70_reset_and_hazards.md R490). -/

namespace Sys2Proof.Machine

/-! ## Register access (45_privileged_registers.md R432 to R434) -/

/-- `write64(addr, v)` (R432). -/
def hostWrite64 (addr : Word32) (v : Word64) (s : State) : State :=
  if addr.toNat ≤ 0xFF then writeReg (addr.setWidth 8) v .host s
  else
    match privDecode addr with
    | some (r, .low) => privAccess r (.write64 v) s
    | some (_, .high) => privUnmapped .w64 addr s
    | none => privUnmapped .w64 addr s

/-- `write32(addr, v)` (R433). -/
def hostWrite32 (addr v : Word32) (s : State) : State :=
  match privDecode addr with
  | some (r, part) => privAccess r (.write32 part v) s
  | none => privUnmapped .w32 addr s

/-- `read32(addr)` (R434). -/
def hostRead32 (addr : Word32) (s : State) : State :=
  match privDecode addr with
  | some (r, part) => privAccess r (.read32 part) s
  | none => privUnmapped .r32 addr s

/-! ## The transfer engine's read port (44_transfer_engine.md R394) -/

/-- `read_HWREG()`. -/
def hostReadHwreg (s : State) : State :=
  let r := hwregRead s
  setResult (.word64 r.1) r.2

/-! ## Blanking events (45_privileged_registers.md R455) -/

/-- `video_event(kind)`. -/
def hostVideoEvent (kind : VideoEvent) (s : State) : State :=
  match kind with
  | .hblank => s.setPriv { s.priv with csrHsint := true }
  | .vblankStart => s.setPriv { s.priv with csrVsint := true, csrField := !s.priv.csrField }

/-! ## Presentation accessors (45_privileged_registers.md R456, R457) -/

/-- DISPLAYc of the displayed circuit: circuit 1 when PMODE.EN1 is set, else 2 (R456). -/
def shownDisplay (p : PrivRegs) : Word64 := if pmodeEN1 p.pmode then p.display1 else p.display2

/-- DISPFBc of the displayed circuit (R456). -/
def shownDispfb (p : PrivRegs) : Word64 := if pmodeEN1 p.pmode then p.dispfb1 else p.dispfb2

/-- The display resolution (R456). -/
def displaySize (p : PrivRegs) : Nat × Nat :=
  ((displayDW (shownDisplay p)).toNat + 1, (displayDH (shownDisplay p)).toNat + 1)

/-- The internal resolution: the display's, divided by the magnifications (R456). -/
def internalSize (p : PrivRegs) : Nat × Nat :=
  ((displaySize p).1 / ((displayMAGH (shownDisplay p)).toNat + 1),
    (displaySize p).2 / ((displayMAGV (shownDisplay p)).toNat + 1))

/-- `pix(x, y)` of the displayed buffer, with its errors raised (R457). -/
def framePixel (x y : Nat) (s : State) : Word32 × State :=
  let fb := shownDispfb s.priv
  let r := pixRead ((dispfbPSM fb).setWidth 6) (pagesToBlocks (dispfbFBP fb).toNat)
    (dispfbFBW fb).toNat ((dispfbDBX fb).toNat + x) ((dispfbDBY fb).toNat + y) s
  (r.1.1, r.2)

/-- Pixels `k` to `k + n - 1` of a picture of width `w`, row by row (log entry 8). -/
def framePixels (w n k : Nat) (s : State) : List Word32 × State :=
  match n with
  | 0 => ([], s)
  | n + 1 =>
    let r := framePixel (k % w) (k / w) s
    let rest := framePixels w n (k + 1) r.2
    (r.1 :: rest.1, rest.2)

/-- `get_framebuffer()` (R457). -/
def hostGetFramebuffer (s : State) : State :=
  let w := (internalSize s.priv).1
  let h := (internalSize s.priv).2
  let r := framePixels w (w * h) 0 s
  setResult (.frame w h (dispfbPSM (shownDispfb s.priv)) r.1) r.2

/-! ## The meanings of the rows -/

/-- HOST_feed_GIF (40_gif_decoder.md R200). -/
def execHostFeedGif (q : Qword) (s : State) : Outcome := .next (onQword .feed q s)

/-- HOST_send_PATH3 (40_gif_decoder.md R200). -/
def execHostSendPath3 (q : Qword) (s : State) : Outcome := .next (onQword .path3 q s)

/-- HOST_end_of_stream (40_gif_decoder.md R216). -/
def execHostEndOfStream (path : Path) (s : State) : Outcome := .next (endOfStream path s)

/-- HOST_write64 (R432). -/
def execHostWrite64 (addr : Word32) (v : Word64) (s : State) : Outcome :=
  .next (hostWrite64 addr v s)

/-- HOST_write32 (R433). -/
def execHostWrite32 (addr v : Word32) (s : State) : Outcome := .next (hostWrite32 addr v s)

/-- HOST_read32 (R434). -/
def execHostRead32 (addr : Word32) (s : State) : Outcome := .next (hostRead32 addr s)

/-- HOST_read_HWREG (44_transfer_engine.md R394). -/
def execHostReadHwreg (s : State) : Outcome := .next (hostReadHwreg s)

/-- HOST_video_event (R455). -/
def execHostVideoEvent (kind : VideoEvent) (s : State) : Outcome := .next (hostVideoEvent kind s)

/-- HOST_reset (70_reset_and_hazards.md R490). -/
def execHostReset (s : State) : Outcome := .next (resetBlock s)

/-- HOST_get_display_resolution (R456). -/
def execHostGetDisplayResolution (s : State) : Outcome :=
  .next (setResult (.size (displaySize s.priv).1 (displaySize s.priv).2) s)

/-- HOST_get_internal_resolution (R456). -/
def execHostGetInternalResolution (s : State) : Outcome :=
  .next (setResult (.size (internalSize s.priv).1 (internalSize s.priv).2) s)

/-- HOST_get_framebuffer (R457). -/
def execHostGetFramebuffer (s : State) : Outcome := .next (hostGetFramebuffer s)

end Sys2Proof.Machine
end

