-- ==== Sys2Proof/Machine/Dispatch.lean ====
section
/-! DEFINITION. The instruction dispatch: one arm for each row of spec/opcode_table.json. -/

namespace Sys2Proof.Machine

def exec (i : Instr) (s : State) : Host.Outcome State Fault Refusal :=
  match i with
  | .giftagPacked path t => Sys2Proof.Machine.execGiftagPacked path t s
  | .giftagReglist path t => Sys2Proof.Machine.execGiftagReglist path t s
  | .giftagImage path t => Sys2Proof.Machine.execGiftagImage path t s
  | .giftagFlg3 path t => Sys2Proof.Machine.execGiftagFlg3 path t s
  | .pkPrim prim => Sys2Proof.Machine.execPkPrim prim s
  | .pkRgbaq r g b a => Sys2Proof.Machine.execPkRgbaq r g b a s
  | .pkSt sc tc qc => Sys2Proof.Machine.execPkSt sc tc qc s
  | .pkUv uc vc => Sys2Proof.Machine.execPkUv uc vc s
  | .pkXyzf2 x y z f adc => Sys2Proof.Machine.execPkXyzf2 x y z f adc s
  | .pkXyz2 x y z adc => Sys2Proof.Machine.execPkXyz2 x y z adc s
  | .pkTex0_1 v => Sys2Proof.Machine.execPkTex0_1 v s
  | .pkTex0_2 v => Sys2Proof.Machine.execPkTex0_2 v s
  | .pkClamp_1 v => Sys2Proof.Machine.execPkClamp_1 v s
  | .pkClamp_2 v => Sys2Proof.Machine.execPkClamp_2 v s
  | .pkFog f => Sys2Proof.Machine.execPkFog f s
  | .pkReservedB => Sys2Proof.Machine.execPkReservedB s
  | .pkXyzf3 x y z f adc => Sys2Proof.Machine.execPkXyzf3 x y z f adc s
  | .pkXyz3 x y z adc => Sys2Proof.Machine.execPkXyz3 x y z adc s
  | .pkAD addr v => Sys2Proof.Machine.execPkAD addr v s
  | .pkNop => Sys2Proof.Machine.execPkNop s
  | .prim v => Sys2Proof.Machine.execPrim v s
  | .rgbaq v => Sys2Proof.Machine.execRgbaq v s
  | .st v => Sys2Proof.Machine.execSt v s
  | .uv v => Sys2Proof.Machine.execUv v s
  | .xyzf2 v => Sys2Proof.Machine.execXyzf2 v s
  | .xyz2 v => Sys2Proof.Machine.execXyz2 v s
  | .tex0_1 v => Sys2Proof.Machine.execTex0_1 v s
  | .tex0_2 v => Sys2Proof.Machine.execTex0_2 v s
  | .clamp_1 v => Sys2Proof.Machine.execClamp_1 v s
  | .clamp_2 v => Sys2Proof.Machine.execClamp_2 v s
  | .fog v => Sys2Proof.Machine.execFog v s
  | .xyzf3 v => Sys2Proof.Machine.execXyzf3 v s
  | .xyz3 v => Sys2Proof.Machine.execXyz3 v s
  | .tex1_1 v => Sys2Proof.Machine.execTex1_1 v s
  | .tex1_2 v => Sys2Proof.Machine.execTex1_2 v s
  | .tex2_1 v => Sys2Proof.Machine.execTex2_1 v s
  | .tex2_2 v => Sys2Proof.Machine.execTex2_2 v s
  | .xyoffset_1 v => Sys2Proof.Machine.execXyoffset_1 v s
  | .xyoffset_2 v => Sys2Proof.Machine.execXyoffset_2 v s
  | .prmodecont v => Sys2Proof.Machine.execPrmodecont v s
  | .prmode v => Sys2Proof.Machine.execPrmode v s
  | .texclut v => Sys2Proof.Machine.execTexclut v s
  | .scanmsk v => Sys2Proof.Machine.execScanmsk v s
  | .miptbp1_1 v => Sys2Proof.Machine.execMiptbp1_1 v s
  | .miptbp1_2 v => Sys2Proof.Machine.execMiptbp1_2 v s
  | .miptbp2_1 v => Sys2Proof.Machine.execMiptbp2_1 v s
  | .miptbp2_2 v => Sys2Proof.Machine.execMiptbp2_2 v s
  | .texa v => Sys2Proof.Machine.execTexa v s
  | .fogcol v => Sys2Proof.Machine.execFogcol v s
  | .texflush v => Sys2Proof.Machine.execTexflush v s
  | .scissor_1 v => Sys2Proof.Machine.execScissor_1 v s
  | .scissor_2 v => Sys2Proof.Machine.execScissor_2 v s
  | .alpha_1 v => Sys2Proof.Machine.execAlpha_1 v s
  | .alpha_2 v => Sys2Proof.Machine.execAlpha_2 v s
  | .dimx v => Sys2Proof.Machine.execDimx v s
  | .dthe v => Sys2Proof.Machine.execDthe v s
  | .colclamp v => Sys2Proof.Machine.execColclamp v s
  | .test_1 v => Sys2Proof.Machine.execTest_1 v s
  | .test_2 v => Sys2Proof.Machine.execTest_2 v s
  | .pabe v => Sys2Proof.Machine.execPabe v s
  | .fba_1 v => Sys2Proof.Machine.execFba_1 v s
  | .fba_2 v => Sys2Proof.Machine.execFba_2 v s
  | .frame_1 v => Sys2Proof.Machine.execFrame_1 v s
  | .frame_2 v => Sys2Proof.Machine.execFrame_2 v s
  | .zbuf_1 v => Sys2Proof.Machine.execZbuf_1 v s
  | .zbuf_2 v => Sys2Proof.Machine.execZbuf_2 v s
  | .bitbltbuf v => Sys2Proof.Machine.execBitbltbuf v s
  | .trxpos v => Sys2Proof.Machine.execTrxpos v s
  | .trxreg v => Sys2Proof.Machine.execTrxreg v s
  | .trxdir v => Sys2Proof.Machine.execTrxdir v s
  | .hwreg v => Sys2Proof.Machine.execHwreg v s
  | .signal v => Sys2Proof.Machine.execSignal v s
  | .finish v => Sys2Proof.Machine.execFinish v s
  | .label v => Sys2Proof.Machine.execLabel v s
  | .unmappedId src id v => Sys2Proof.Machine.execUnmappedId src id v s
  | .rlPrim v => Sys2Proof.Machine.execRlPrim v s
  | .rlRgbaq v => Sys2Proof.Machine.execRlRgbaq v s
  | .rlSt v => Sys2Proof.Machine.execRlSt v s
  | .rlUv v => Sys2Proof.Machine.execRlUv v s
  | .rlXyzf2 v => Sys2Proof.Machine.execRlXyzf2 v s
  | .rlXyz2 v => Sys2Proof.Machine.execRlXyz2 v s
  | .rlTex0_1 v => Sys2Proof.Machine.execRlTex0_1 v s
  | .rlTex0_2 v => Sys2Proof.Machine.execRlTex0_2 v s
  | .rlClamp_1 v => Sys2Proof.Machine.execRlClamp_1 v s
  | .rlClamp_2 v => Sys2Proof.Machine.execRlClamp_2 v s
  | .rlFog v => Sys2Proof.Machine.execRlFog v s
  | .rlReservedB v => Sys2Proof.Machine.execRlReservedB v s
  | .rlXyzf3 v => Sys2Proof.Machine.execRlXyzf3 v s
  | .rlXyz3 v => Sys2Proof.Machine.execRlXyz3 v s
  | .rlNoneE v => Sys2Proof.Machine.execRlNoneE v s
  | .rlNoneF v => Sys2Proof.Machine.execRlNoneF v s
  | .imageQword q => Sys2Proof.Machine.execImageQword q s
  | .privPmode acc => Sys2Proof.Machine.execPrivPmode acc s
  | .privSmode1 acc => Sys2Proof.Machine.execPrivSmode1 acc s
  | .privSmode2 acc => Sys2Proof.Machine.execPrivSmode2 acc s
  | .privSrfsh acc => Sys2Proof.Machine.execPrivSrfsh acc s
  | .privSynch1 acc => Sys2Proof.Machine.execPrivSynch1 acc s
  | .privSynch2 acc => Sys2Proof.Machine.execPrivSynch2 acc s
  | .privSyncv acc => Sys2Proof.Machine.execPrivSyncv acc s
  | .privDispfb1 acc => Sys2Proof.Machine.execPrivDispfb1 acc s
  | .privDisplay1 acc => Sys2Proof.Machine.execPrivDisplay1 acc s
  | .privDispfb2 acc => Sys2Proof.Machine.execPrivDispfb2 acc s
  | .privDisplay2 acc => Sys2Proof.Machine.execPrivDisplay2 acc s
  | .privExtbuf acc => Sys2Proof.Machine.execPrivExtbuf acc s
  | .privExtdata acc => Sys2Proof.Machine.execPrivExtdata acc s
  | .privExtwrite acc => Sys2Proof.Machine.execPrivExtwrite acc s
  | .privBgcolor acc => Sys2Proof.Machine.execPrivBgcolor acc s
  | .privCsr acc => Sys2Proof.Machine.execPrivCsr acc s
  | .privImr acc => Sys2Proof.Machine.execPrivImr acc s
  | .privBusdir acc => Sys2Proof.Machine.execPrivBusdir acc s
  | .privSiglblid acc => Sys2Proof.Machine.execPrivSiglblid acc s
  | .privUnmapped op addr => Sys2Proof.Machine.execPrivUnmapped op addr s
  | .hostFeedGif q => Sys2Proof.Machine.execHostFeedGif q s
  | .hostSendPath3 q => Sys2Proof.Machine.execHostSendPath3 q s
  | .hostEndOfStream path => Sys2Proof.Machine.execHostEndOfStream path s
  | .hostWrite64 addr v => Sys2Proof.Machine.execHostWrite64 addr v s
  | .hostWrite32 addr v => Sys2Proof.Machine.execHostWrite32 addr v s
  | .hostRead32 addr => Sys2Proof.Machine.execHostRead32 addr s
  | .hostReadHwreg => Sys2Proof.Machine.execHostReadHwreg s
  | .hostVideoEvent kind => Sys2Proof.Machine.execHostVideoEvent kind s
  | .hostReset => Sys2Proof.Machine.execHostReset s
  | .hostGetDisplayResolution => Sys2Proof.Machine.execHostGetDisplayResolution s
  | .hostGetInternalResolution => Sys2Proof.Machine.execHostGetInternalResolution s
  | .hostGetFramebuffer => Sys2Proof.Machine.execHostGetFramebuffer s

end Sys2Proof.Machine
end

