-- ==== Sys2Proof/Machine/Step.lean ====
section
/-! DEFINITION. One step of the machine: one host call (00_scope.md R7). -/

namespace Sys2Proof.Machine

/-- A step performs the oldest pending host call. With none pending nothing happens: the block
never initiates work on its own (45_privileged_registers.md R455, log entry 1). -/
def step (s : State) : Host.Outcome State Fault Refusal :=
  match fetch s with
  | none => .next s
  | some (c, rest) => exec c.instr (beginCall rest s)

/-- `s` with a word of the opcode table placed as the next thing the machine does (log entry 9). -/
def State.withFetchWord (s : State) (nbits w : Nat) : State := placeTableWord s nbits w

end Sys2Proof.Machine
end

