-- ==== Sys2Proof/Safety.lean ====
section
/-! DEFINITION. What a good state and a safe run are. The rules of spec/ that say what holds between
host calls (10_state.md R23, R46; 20_memory.md R120; 43_primitive_assembler.md R366;
44_transfer_engine.md R398; 45_privileged_registers.md R455) are gathered in `Inv`. -/

namespace Sys2Proof.Machine

/-- The decoder between host calls (10_state.md R22, R23): `reg_count` is 1 to 16; awaiting a tag,
nothing is left of a payload; inside a payload, the packet is open, something is left, and under
PACKED and REGLIST so is a descriptor of the current loop. -/
def DecoderInv (d : Decoder) : Prop :=
  (1 ≤ d.regCount ∧ d.regCount ≤ 16) ∧
  (d.decState = .awaitingTag → d.regsLeft = 0 ∧ d.dataLeft = 0) ∧
  (d.decState = .processing →
    d.packetOpen = true ∧ 0 < d.dataLeft ∧
      (formatOf d.tag.flg ≠ .image → 1 ≤ d.regsLeft ∧ d.regsLeft ≤ d.regCount) ∧
      (formatOf d.tag.flg = .image → d.regsLeft = 0))

/-- The vertex queue never holds a whole primitive between host calls (43_primitive_assembler.md
R366). -/
def VertexInv (s : State) : Prop := s.vq.length < vertsNeeded (primTypeOf s.reg.prim)

/-- XDIR of an active direction. -/
def xdirCode (d : XferDir) : BitVec 2 :=
  match d with
  | .hostToLocal => 0#2
  | .localToHost => 1#2
  | .localToLocal => 2#2

/-- The transfer engine between host calls (10_state.md R45, R46; 44_transfer_engine.md R398): no
more pixels than the rectangle has; the address is the bits they take; the stream holds no bit above
`stream_n`, and none at all with no active transfer; an active transfer is a host transfer of the
latched formats, as TRXDIR says, with something left to move. -/
def XferInv (r : RegFile) (x : Xfer) : Prop :=
  x.total = xferWidth x * xferHeight x ∧
  x.pixels ≤ x.total ∧
  x.addr = x.pixels * x.bitDepth ∧
  x.streamBits < 2 ^ x.streamN ∧
  (x.active = false → x.streamN = 0) ∧
  (x.active = true →
    x.dir ≠ .localToLocal ∧
    xferDepth x.dir x.buf = .ok x.bitDepth ∧
    trxdirXDIR r.trxdir = xdirCode x.dir ∧
    (x.dir = .hostToLocal → x.pixels < x.total ∧ x.streamN < x.bitDepth) ∧
    (x.dir = .localToHost → x.streamN < 64 ∧ (x.pixels < x.total ∨ 0 < x.streamN)))

/-- Local memory is in its one form and lies inside the buffer: no access corrupts memory outside it
(20_memory.md R120). -/
def MemoryInv (cfg : Params) (m : Memory) : Prop := m.wf ∧ ∀ c ∈ m, c.1 < 4 * cfg.vramWords

/-- NFIELD and EDWINT are never set by this block (45_privileged_registers.md R455). -/
def EventInv (p : PrivRegs) : Prop := p.csrNfield = false ∧ p.csrEdwint = false

/-- What holds of the block between host calls. -/
def Inv (s : State) : Prop :=
  DecoderInv s.dec ∧ VertexInv s ∧ XferInv s.reg s.xfer ∧ MemoryInv s.cfg s.vram ∧ EventInv s.priv

/-- A run that has reached no case the spec leaves without a meaning (60_exceptions.md R465). -/
def Settled (s : State) : Prop := s.unmodelled = false

end Sys2Proof.Machine
end

