-- ==== Sys2Proof/WellFormed.lean ====
section
/-! DEFINITION. Which instructions the encodings of spec/ can say. The operand types hold every
other bound, so three checks are left: NLOOP fits the tag's NLOOP field (30_encoding.md R152), an
UNMAPPED_ID is of an id that R161 does not map, and a PRIV_UNMAPPED is of an access that
45_privileged_registers.md R431 does not map. -/

namespace Sys2Proof

/-- NLOOP fits the width of its field (30_encoding.md R152). -/
def nloopFits (nb : NloopBits) (nloop : BitVec 15) : Bool :=
  match nb with
  | .bits15 => true
  | .bits14 => nloop.toNat < 2 ^ 14

/-- An access no privileged register is reached by, and, for `write64`, no general register either
(45_privileged_registers.md R430 to R432). -/
def isUnmappedAccess (op : HostOp) (addr : Word32) : Bool :=
  match op, privDecode addr with
  | .w64, some (_, .low) => false
  | .w64, _ => decide (0xFF < addr.toNat)
  | .w32, some _ => false
  | .r32, some _ => false
  | _, none => true

/-- The instruction is one that some bits stand for. -/
def Instr.wellFormed (nb : NloopBits) (i : Instr) : Bool :=
  match i with
  | .giftagPacked _ t => nloopFits nb t.nloop
  | .giftagReglist _ t => nloopFits nb t.nloop
  | .giftagImage _ t => nloopFits nb t.nloop
  | .giftagFlg3 _ t => nloopFits nb t.nloop
  | .pkPrim _ => true
  | .pkRgbaq _ _ _ _ => true
  | .pkSt _ _ _ => true
  | .pkUv _ _ => true
  | .pkXyzf2 _ _ _ _ _ => true
  | .pkXyz2 _ _ _ _ => true
  | .pkTex0_1 _ => true
  | .pkTex0_2 _ => true
  | .pkClamp_1 _ => true
  | .pkClamp_2 _ => true
  | .pkFog _ => true
  | .pkReservedB => true
  | .pkXyzf3 _ _ _ _ _ => true
  | .pkXyz3 _ _ _ _ => true
  | .pkAD _ _ => true
  | .pkNop => true
  | .prim _ => true
  | .rgbaq _ => true
  | .st _ => true
  | .uv _ => true
  | .xyzf2 _ => true
  | .xyz2 _ => true
  | .tex0_1 _ => true
  | .tex0_2 _ => true
  | .clamp_1 _ => true
  | .clamp_2 _ => true
  | .fog _ => true
  | .xyzf3 _ => true
  | .xyz3 _ => true
  | .tex1_1 _ => true
  | .tex1_2 _ => true
  | .tex2_1 _ => true
  | .tex2_2 _ => true
  | .xyoffset_1 _ => true
  | .xyoffset_2 _ => true
  | .prmodecont _ => true
  | .prmode _ => true
  | .texclut _ => true
  | .scanmsk _ => true
  | .miptbp1_1 _ => true
  | .miptbp1_2 _ => true
  | .miptbp2_1 _ => true
  | .miptbp2_2 _ => true
  | .texa _ => true
  | .fogcol _ => true
  | .texflush _ => true
  | .scissor_1 _ => true
  | .scissor_2 _ => true
  | .alpha_1 _ => true
  | .alpha_2 _ => true
  | .dimx _ => true
  | .dthe _ => true
  | .colclamp _ => true
  | .test_1 _ => true
  | .test_2 _ => true
  | .pabe _ => true
  | .fba_1 _ => true
  | .fba_2 _ => true
  | .frame_1 _ => true
  | .frame_2 _ => true
  | .zbuf_1 _ => true
  | .zbuf_2 _ => true
  | .bitbltbuf _ => true
  | .trxpos _ => true
  | .trxreg _ => true
  | .trxdir _ => true
  | .hwreg _ => true
  | .signal _ => true
  | .finish _ => true
  | .label _ => true
  | .unmappedId _ id _ => (GReg.ofId id).isNone
  | .rlPrim _ => true
  | .rlRgbaq _ => true
  | .rlSt _ => true
  | .rlUv _ => true
  | .rlXyzf2 _ => true
  | .rlXyz2 _ => true
  | .rlTex0_1 _ => true
  | .rlTex0_2 _ => true
  | .rlClamp_1 _ => true
  | .rlClamp_2 _ => true
  | .rlFog _ => true
  | .rlReservedB _ => true
  | .rlXyzf3 _ => true
  | .rlXyz3 _ => true
  | .rlNoneE _ => true
  | .rlNoneF _ => true
  | .imageQword _ => true
  | .privPmode _ => true
  | .privSmode1 _ => true
  | .privSmode2 _ => true
  | .privSrfsh _ => true
  | .privSynch1 _ => true
  | .privSynch2 _ => true
  | .privSyncv _ => true
  | .privDispfb1 _ => true
  | .privDisplay1 _ => true
  | .privDispfb2 _ => true
  | .privDisplay2 _ => true
  | .privExtbuf _ => true
  | .privExtdata _ => true
  | .privExtwrite _ => true
  | .privBgcolor _ => true
  | .privCsr _ => true
  | .privImr _ => true
  | .privBusdir _ => true
  | .privSiglblid _ => true
  | .privUnmapped op addr => isUnmappedAccess op addr
  | .hostFeedGif _ => true
  | .hostSendPath3 _ => true
  | .hostEndOfStream _ => true
  | .hostWrite64 _ _ => true
  | .hostWrite32 _ _ => true
  | .hostRead32 _ => true
  | .hostReadHwreg => true
  | .hostVideoEvent _ => true
  | .hostReset => true
  | .hostGetDisplayResolution => true
  | .hostGetInternalResolution => true
  | .hostGetFramebuffer => true

end Sys2Proof
end

