-- ==== Sys2Proof/Certificates/Slice0/Obligations.lean ====
section
/-! DEFINITION. The statements for the provers. The helpers in `Sys2Proof.Claims` write the rules'
tables and formulas out again, from spec/ and not from the model, wherever a statement compares the
model with them. -/

namespace Sys2Proof.Claims

open Sys2Proof.Machine

/-! ### Runs -/

/-- Instructions in order, up to the first that does not answer a next state. -/
def runAll : List Instr → State → Outcome
  | [], s => .next s
  | i :: is, s =>
    match exec i s with
    | .next t => runAll is t
    | .fault r => .fault r
    | .refused r => .refused r

/-- The host call that delivers a qword on a path (40_gif_decoder.md R200). -/
def ingress (path : Path) (q : Qword) : Instr :=
  match path with
  | .feed => .hostFeedGif q
  | .path3 => .hostSendPath3 q

/-- `s` with error records added to the report of the call, the mark of the run set when one of them
is an E_UNMODELLED (60_exceptions.md R460, R465). -/
def reporting (es : List Err) (s : State) : State :=
  { s with
    out := { s.out with report := s.out.report ++ es }
    unmodelled := s.unmodelled || es.any (fun e => match e with | .unmodelled _ => true | _ => false) }

/-! ### General registers -/

/-- What a general register's id reads, for the ids with storage of their own
(30_encoding.md R161, 10_state.md R24). -/
def stored (r : GReg) (f : RegFile) : Option Word64 :=
  match r with
  | .prim => some f.prim
  | .rgbaq => some f.rgbaq
  | .st => some f.st
  | .uv => some f.uv
  | .xyzf2 => some f.xyzf2
  | .xyz2 => some f.xyz2
  | .tex0_1 => some f.tex0.c1
  | .tex0_2 => some f.tex0.c2
  | .clamp_1 => some f.clamp.c1
  | .clamp_2 => some f.clamp.c2
  | .fog => some f.fog
  | .xyzf3 => some f.xyzf3
  | .xyz3 => some f.xyz3
  | .tex1_1 => some f.tex1.c1
  | .tex1_2 => some f.tex1.c2
  | .tex2_1 => none
  | .tex2_2 => none
  | .xyoffset_1 => some f.xyoffset.c1
  | .xyoffset_2 => some f.xyoffset.c2
  | .prmodecont => some f.prmodecont
  | .prmode => some f.prmode
  | .texclut => some f.texclut
  | .scanmsk => some f.scanmsk
  | .miptbp1_1 => some f.miptbp1.c1
  | .miptbp1_2 => some f.miptbp1.c2
  | .miptbp2_1 => some f.miptbp2.c1
  | .miptbp2_2 => some f.miptbp2.c2
  | .texa => some f.texa
  | .fogcol => some f.fogcol
  | .texflush => none
  | .scissor_1 => some f.scissor.c1
  | .scissor_2 => some f.scissor.c2
  | .alpha_1 => some f.alpha.c1
  | .alpha_2 => some f.alpha.c2
  | .dimx => some f.dimx
  | .dthe => some f.dthe
  | .colclamp => some f.colclamp
  | .test_1 => some f.test.c1
  | .test_2 => some f.test.c2
  | .pabe => some f.pabe
  | .fba_1 => some f.fba.c1
  | .fba_2 => some f.fba.c2
  | .frame_1 => some f.frame.c1
  | .frame_2 => some f.frame.c2
  | .zbuf_1 => some f.zbuf.c1
  | .zbuf_2 => some f.zbuf.c2
  | .bitbltbuf => some f.bitbltbuf
  | .trxpos => some f.trxpos
  | .trxreg => some f.trxreg
  | .trxdir => some f.trxdir
  | .hwreg => none
  | .signal => none
  | .finish => none
  | .label => none

/-- The single registers whose write only stores. -/
def singleStores : List GReg :=
  [GReg.rgbaq, GReg.st, GReg.uv, GReg.fog, GReg.prmodecont, GReg.prmode, GReg.texclut, GReg.scanmsk,
   GReg.texa, GReg.fogcol, GReg.dimx, GReg.dthe, GReg.colclamp, GReg.pabe, GReg.bitbltbuf,
   GReg.trxpos, GReg.trxreg]

/-- The paired registers whose id always names the copy written (42_general_registers.md R281). -/
def ownCopyStores : List GReg :=
  [GReg.tex0_1, GReg.tex0_2, GReg.clamp_1, GReg.clamp_2, GReg.tex1_1, GReg.tex1_2, GReg.miptbp1_1,
   GReg.miptbp1_2, GReg.miptbp2_1, GReg.miptbp2_2, GReg.alpha_1, GReg.alpha_2, GReg.fba_1,
   GReg.fba_2]

/-- `ActiveCtx()` (42_general_registers.md R281). -/
def context (f : RegFile) : Ctx :=
  if (if f.prmodecont.getLsbD 0 then f.prim.getLsbD 9 else f.prmode.getLsbD 9) then .c2 else .c1

/-- One copy of a pair replaced. -/
def setCopy (p : Pair) (c : Ctx) (v : Word64) : Pair :=
  match c with
  | .c1 => { c1 := v, c2 := p.c2 }
  | .c2 => { c1 := p.c1, c2 := v }

/-- The copy that a write by the id of copy `n` reaches (42_general_registers.md R281). -/
def copyReached (s : State) (n : Ctx) : Ctx := if s.cfg.ctxWriteByAddress then n else context s.reg

/-- The ids without a mapping (30_encoding.md R162), as ranges. -/
def unmappedIds : List (Nat × Nat) :=
  [(0x0B, 0x0B), (0x0E, 0x13), (0x1D, 0x21), (0x23, 0x33), (0x38, 0x3A), (0x3C, 0x3C), (0x3E, 0x3E),
   (0x55, 0x5F), (0x63, 0xFF)]

/-- An id lies in one of the ranges of `unmappedIds`. -/
def isUnmapped (id : BitVec 8) : Bool :=
  unmappedIds.any (fun p => p.1 ≤ id.toNat && id.toNat ≤ p.2)

/-! ### Vertices and draws -/

/-- `NEEDED(t)` (43_primitive_assembler.md R355). -/
def needed (t : BitVec 3) : Nat := [1, 2, 2, 3, 3, 3, 2, 1].getD t.toNat 0

/-- `KEEP(t, vq)` on a queue of `NEEDED(t)` vertices (43_primitive_assembler.md R355). -/
def kept (t : BitVec 3) (vq : List Vertex) : List Vertex :=
  match t.toNat, vq with
  | 2, [_, v1] => [v1]
  | 4, [_, v1, v2] => [v1, v2]
  | 5, [v0, _, v2] => [v0, v2]
  | _, _ => []

/-- The type of a draw by its code (43_primitive_assembler.md R355). -/
def typeNamed (t : BitVec 3) : PrimType :=
  [PrimType.point, .line, .lineStrip, .triangle, .triangleStrip, .triangleFan, .sprite].getD t.toNat
    .reserved

/-- PRIM.PRIM of a register file. -/
def typeCode (f : RegFile) : BitVec 3 := f.prim.extractLsb' 0 3

/-- `Capture(x, y, z)`, the position in register format (43_primitive_assembler.md R350). -/
def vertexOf (f : RegFile) (v : Word64) (z : BitVec 32) : Vertex where
  x := v.extractLsb' 0 16
  y := v.extractLsb' 16 16
  z := z
  f := f.fog.extractLsb' 56 8
  r := f.rgbaq.extractLsb' 0 8
  g := f.rgbaq.extractLsb' 8 8
  b := f.rgbaq.extractLsb' 16 8
  a := f.rgbaq.extractLsb' 24 8
  q := f.rgbaq.extractLsb' 32 32
  s := f.st.extractLsb' 0 32
  t := f.st.extractLsb' 32 32
  u := f.uv.extractLsb' 0 14
  v := f.uv.extractLsb' 16 14

/-- The effective flags (43_primitive_assembler.md R351). -/
def flagsOf (f : RegFile) : PrimFlags :=
  let m := if f.prmodecont.getLsbD 0 then f.prim else f.prmode
  { iip := m.getLsbD 3, tme := m.getLsbD 4, fge := m.getLsbD 5, abe := m.getLsbD 6,
    aa1 := m.getLsbD 7, fst := m.getLsbD 8, fix := m.getLsbD 10 }

/-- A row of the general registers that commits a vertex. -/
structure XyzRow where
  instr : Word64 → Instr
  store : Word64 → RegFile → RegFile
  depth : Word64 → BitVec 32
  kick  : Bool

/-- XYZF2 (42_general_registers.md R286). -/
def rowXyzf2 : XyzRow where
  instr := .xyzf2
  store := fun v f => { f with xyzf2 := v, fog := v.extractLsb' 56 8 ++ f.fog.extractLsb' 0 56 }
  depth := fun v => 0#8 ++ v.extractLsb' 32 24
  kick := true

/-- XYZ2 (42_general_registers.md R287). -/
def rowXyz2 : XyzRow where
  instr := .xyz2
  store := fun v f => { f with xyz2 := v }
  depth := fun v => v.extractLsb' 32 32
  kick := true

/-- XYZF3 (42_general_registers.md R293). -/
def rowXyzf3 : XyzRow where
  instr := .xyzf3
  store := fun v f => { f with xyzf3 := v, fog := v.extractLsb' 56 8 ++ f.fog.extractLsb' 0 56 }
  depth := fun v => 0#8 ++ v.extractLsb' 32 24
  kick := false

/-- XYZ3 (42_general_registers.md R294). -/
def rowXyz3 : XyzRow where
  instr := .xyz3
  store := fun v f => { f with xyz3 := v }
  depth := fun v => v.extractLsb' 32 32
  kick := false

/-- The four rows that commit a vertex. -/
def xyzRows : List XyzRow := [rowXyzf2, rowXyz2, rowXyzf3, rowXyz3]

/-- The register file after an XYZ write. -/
def XyzRow.file (row : XyzRow) (v : Word64) (s : State) : RegFile := row.store v s.reg

/-- The vertex an XYZ write commits. -/
def XyzRow.vertex (row : XyzRow) (v : Word64) (s : State) : Vertex :=
  vertexOf (row.file v s) v (row.depth v)

/-- The queue with the new vertex at its end. -/
def XyzRow.queue (row : XyzRow) (v : Word64) (s : State) : List Vertex :=
  s.vq ++ [row.vertex v s]

/-- The draw event of a completing XYZ write (43_primitive_assembler.md R353). -/
def XyzRow.event (row : XyzRow) (v : Word64) (s : State) : DrawEvent where
  type := typeNamed (typeCode s.reg)
  flags := flagsOf (row.file v s)
  ctxt := context (row.file v s)
  verts := row.queue v s

/-- The runs of `n` neighbours of a list. -/
def windows {α : Type} (n : Nat) (l : List α) : List (List α) :=
  (List.range (l.length + 1 - n)).map (fun i => (l.drop i).take n)

/-- The first element with each run of two neighbours of the others. -/
def fans {α : Type} (l : List α) : List (List α) := (windows 2 (l.drop 1)).map (fun w => l.take 1 ++ w)

/-- The runs of `n` elements one after the other, a rest of fewer left out. -/
def chunks {α : Type} (n : Nat) (l : List α) : List (List α) :=
  (List.range (l.length / n)).map (fun i => (l.drop (n * i)).take n)

/-- The vertices of the draws of a run of XYZ2 writes, from an empty queue, by type
(43_primitive_assembler.md R356 to R362). -/
def primitives {α : Type} (t : BitVec 3) (l : List α) : List (List α) :=
  match t.toNat with
  | 0 => chunks 1 l
  | 1 => chunks 2 l
  | 2 => windows 2 l
  | 3 => chunks 3 l
  | 4 => windows 3 l
  | 5 => fans l
  | 6 => chunks 2 l
  | _ => []

/-! ### The decoder -/

/-- `reg_count` (30_encoding.md R154). -/
def descriptors (nreg : BitVec 4) : Nat := if nreg.toNat = 0 then 16 else nreg.toNat

/-- The payload units of a tag (40_gif_decoder.md R208). -/
def payload (flg : BitVec 2) (nloop : Nat) (nreg : BitVec 4) : Nat :=
  if flg.toNat < 2 then nloop * descriptors nreg else nloop

/-- The payload qwords of a tag (30_encoding.md R160). -/
def payloadQwords (flg : BitVec 2) (nloop : Nat) (nreg : BitVec 4) : Nat :=
  if flg.toNat = 0 then nloop * descriptors nreg
  else if flg.toNat = 1 then (nloop * descriptors nreg + 1) / 2
  else nloop

/-- NLOOP of a tag qword (30_encoding.md R152). -/
def loops (nb : NloopBits) (q : Qword) : Nat :=
  match nb with
  | .bits15 => (q.extractLsb' 0 15).toNat
  | .bits14 => (q.extractLsb' 0 14).toNat

/-- The payload qwords that a tag qword declares. -/
def declared (nb : NloopBits) (q : Qword) : Nat :=
  payloadQwords (q.extractLsb' 58 2) (loops nb q) (q.extractLsb' 60 4)

/-- The tag rows by FLG (30_encoding.md R153). -/
def tagRows : List (BitVec 2 × (Path → TagFields → Instr)) :=
  [(0#2, Instr.giftagPacked), (1#2, Instr.giftagReglist), (2#2, Instr.giftagImage),
   (3#2, Instr.giftagFlg3)]

/-- The decoder after one unit of payload under a descriptor (40_gif_decoder.md R211, R214). -/
def afterUnit (d : Decoder) : Decoder :=
  if d.dataLeft ≤ 1 then
    { d with decState := .awaitingTag, regsLeft := 0, dataLeft := 0,
             packetOpen := d.packetOpen && !d.tag.eop }
  else
    { d with regsLeft := if d.regsLeft ≤ 1 then d.regCount else d.regsLeft - 1,
             dataLeft := d.dataLeft - 1 }

/-- The decoder after one IMAGE qword (40_gif_decoder.md R213, R214). -/
def afterImage (d : Decoder) : Decoder :=
  if d.dataLeft ≤ 1 then
    { d with decState := .awaitingTag, regsLeft := 0, dataLeft := 0,
             packetOpen := d.packetOpen && !d.tag.eop }
  else { d with dataLeft := d.dataLeft - 1 }

/-- The descriptor of the next payload unit (40_gif_decoder.md R211). -/
def currentDescriptor (d : Decoder) : BitVec 4 :=
  d.tag.regs.extractLsb' (4 * (d.regCount - d.regsLeft)) 4

/-- A qword of the path is accepted (40_gif_decoder.md R202). -/
def accepts (path : Path) (d : Decoder) : Prop := d.packetOpen = false ∨ d.packetPath = path

/-- The bits of a tag qword that a field names (30_encoding.md R151). -/
def named (nb : NloopBits) (i : Nat) : Prop :=
  i < 14 ∨ (i = 14 ∧ nb = .bits15) ∨ i = 15 ∨ (46 ≤ i ∧ i < 128)

/-! ### Local memory and transfers -/

/-- The pixel storage modes and their bits per pixel (20_memory.md R104). -/
def modes : List (Nat × Nat) :=
  [(0x00, 32), (0x01, 24), (0x02, 16), (0x0A, 16), (0x13, 8), (0x14, 4), (0x1B, 8), (0x24, 4),
   (0x2C, 4), (0x30, 32), (0x31, 24), (0x32, 16), (0x3A, 16)]

/-- Bits per pixel of a code; none for an invalid PSM. -/
def modeBits (code : BitVec 6) : Option Nat :=
  (modes.find? (fun p => p.1 == code.toNat)).map Prod.snd

/-- SPSM, DPSM of BITBLTBUF (10_state.md R42). -/
def spsm (buf : Word64) : BitVec 6 := buf.extractLsb' 24 6
def dpsm (buf : Word64) : BitVec 6 := buf.extractLsb' 56 6

/-- The depth of a valid transfer (44_transfer_engine.md R381, R382). -/
def depthOf (dir : XferDir) (buf : Word64) : Option Nat :=
  match dir with
  | .hostToLocal => modeBits (dpsm buf)
  | .localToHost => modeBits (spsm buf)
  | .localToLocal => if modeBits (spsm buf) = modeBits (dpsm buf) then modeBits (spsm buf) else none

/-- What an invalid transfer is refused for (44_transfer_engine.md R382). -/
def refusedFor (dir : XferDir) (buf : Word64) (e : Unmodelled) : Prop :=
  match dir with
  | .hostToLocal => modeBits (dpsm buf) = none ∧ e = .psm (dpsm buf)
  | .localToHost => modeBits (spsm buf) = none ∧ e = .psm (spsm buf)
  | .localToLocal =>
    (modeBits (spsm buf) = none ∧ e = .psm (spsm buf)) ∨
    (modeBits (dpsm buf) = none ∧ e = .psm (dpsm buf)) ∨
    (∃ a b, modeBits (spsm buf) = some a ∧ modeBits (dpsm buf) = some b ∧ a ≠ b ∧ e = .depths a b)

/-- XDIR of a direction (44_transfer_engine.md R380). -/
def directions : List (BitVec 2 × XferDir) :=
  [(0#2, .hostToLocal), (1#2, .localToHost), (2#2, .localToLocal)]

/-- RRW, RRH of a TRXREG value (10_state.md R42). -/
def width (reg : Word64) : Nat := (reg.extractLsb' 0 12).toNat
def height (reg : Word64) : Nat := (reg.extractLsb' 32 12).toNat

/-- The engine as a TRXDIR write leaves it, but for memory (44_transfer_engine.md R383). -/
def latched (f : RegFile) (dir : XferDir) (active : Bool) (depth moved : Nat) : Xfer where
  active := active
  dir := dir
  buf := f.bitbltbuf
  pos := f.trxpos
  reg := f.trxreg
  total := width f.trxreg * height f.trxreg
  bitDepth := depth
  pixels := moved
  addr := moved * depth
  streamBits := 0
  streamN := 0

/-- Where pixel `k` of a transfer is read, in order `o` (44_transfer_engine.md R387). -/
def sourceAt (cfg : Params) (x : Xfer) (o : BitVec 2) (k : Nat) : Except Err PixelLoc :=
  locate cfg (spsm x.buf) (x.buf.extractLsb' 0 14).toNat (x.buf.extractLsb' 16 6).toNat
    ((x.pos.extractLsb' 0 11).toNat + (pixelXY (width x.reg) (height x.reg) k o).1)
    ((x.pos.extractLsb' 16 11).toNat + (pixelXY (width x.reg) (height x.reg) k o).2)

/-- Where pixel `k` of a transfer is written, in order `o` (44_transfer_engine.md R387). -/
def destAt (cfg : Params) (x : Xfer) (o : BitVec 2) (k : Nat) : Except Err PixelLoc :=
  locate cfg (dpsm x.buf) (x.buf.extractLsb' 32 14).toNat (x.buf.extractLsb' 48 6).toNat
    ((x.pos.extractLsb' 32 11).toNat + (pixelXY (width x.reg) (height x.reg) k o).1)
    ((x.pos.extractLsb' 48 11).toNat + (pixelXY (width x.reg) (height x.reg) k o).2)

/-- Memory and the errors so far, after one pixel is written or rejected (44_transfer_engine.md
R397). -/
def storeAt (l : Except Err PixelLoc) (p : Word32) (m : Memory × List Err) : Memory × List Err :=
  match l with
  | .ok l => (writeWord m.1 l.word (putPixel l (readWord m.1 l.word) p), m.2)
  | .error e => (m.1, m.2 ++ [e])

/-- The pixel at a location, 0 where the access is rejected. -/
def pixelAt (m : Memory) (l : Except Err PixelLoc) : Word32 :=
  match l with
  | .ok l => getPixel l (readWord m l.word)
  | .error _ => 0#32

/-- Memory and the errors so far, after one pixel of a local copy (44_transfer_engine.md R389). -/
def copyAt (cfg : Params) (x : Xfer) (o : BitVec 2) (m : Memory × List Err) (k : Nat) :
    Memory × List Err :=
  match sourceAt cfg x o k with
  | .error e => (m.1, m.2 ++ [e])
  | .ok l => storeAt (destAt cfg x o k) (getPixel l (readWord m.1 l.word)) m

/-- A local copy of the first `n` pixels. -/
def copied (cfg : Params) (x : Xfer) (o : BitVec 2) (n : Nat) (m : Memory) : Memory × List Err :=
  (List.range n).foldl (copyAt cfg x o) (m, [])

/-- The next `n` pixels of a host-to-local transfer, taken from a stream of bits. -/
def received (cfg : Params) (x : Xfer) (stream n : Nat) (m : Memory) : Memory × List Err :=
  (List.range n).foldl (fun m j =>
    storeAt (destAt cfg x 0#2 (x.pixels + j))
      (BitVec.ofNat 32 (stream / 2 ^ (j * x.bitDepth) % 2 ^ x.bitDepth)) m) (m, [])

/-- The errors of reading the next `n` pixels of a local-to-host transfer. -/
def readErrors (cfg : Params) (x : Xfer) (n : Nat) : List Err :=
  (List.range n).filterMap (fun j =>
    match sourceAt cfg x 0#2 (x.pixels + j) with
    | .ok _ => none
    | .error e => some e)

/-- The stream with the next `n` pixels of a local-to-host transfer above its bits. -/
def sentStream (cfg : Params) (x : Xfer) (n : Nat) (m : Memory) : Nat :=
  (List.range n).foldl (fun b j =>
    b + ((pixelAt m (sourceAt cfg x 0#2 (x.pixels + j))).toNat % 2 ^ x.bitDepth) *
      2 ^ (x.streamN + j * x.bitDepth)) x.streamBits

/-- Whole pixels that a stream of `bits` bits holds, of those the rectangle has left. -/
def wholePixels (x : Xfer) (bits : Nat) : Nat := min (bits / x.bitDepth) (x.total - x.pixels)

/-- Pixels fetched until the stream holds a word, or the rectangle has none left. -/
def fetchedPixels (x : Xfer) : Nat :=
  min ((64 - x.streamN + x.bitDepth - 1) / x.bitDepth) (x.total - x.pixels)

/-- HWREG words of a whole transfer (70_reset_and_hazards.md R498). -/
def hwregWords (x : Xfer) : Nat := (x.total * x.bitDepth + 63) / 64

/-- The page of a mode in pixels (20_memory.md R105). -/
def pageSize (p : Psm) : Nat × Nat :=
  match p with
  | .ct32 => (64, 32)
  | .ct24 => (64, 32)
  | .t8h => (64, 32)
  | .t4hl => (64, 32)
  | .t4hh => (64, 32)
  | .z32 => (64, 32)
  | .z24 => (64, 32)
  | .ct16 => (64, 64)
  | .ct16s => (64, 64)
  | .z16 => (64, 64)
  | .z16s => (64, 64)
  | .t8 => (128, 64)
  | .t4 => (128, 128)

/-- Two locations share no bit of memory. -/
def apart (l l' : PixelLoc) : Prop :=
  l.word ≠ l'.word ∨ l.lo + l.width ≤ l'.lo ∨ l'.lo + l'.width ≤ l.lo

/-! ### Privileged registers -/

/-- The map of 30_encoding.md R170. -/
def privTable : List (Word32 × PrivReg) :=
  [(0x12000000#32, .pmode), (0x12000010#32, .smode1), (0x12000020#32, .smode2),
   (0x12000030#32, .srfsh), (0x12000040#32, .synch1), (0x12000050#32, .synch2),
   (0x12000060#32, .syncv), (0x12000070#32, .dispfb1), (0x12000080#32, .display1),
   (0x12000090#32, .dispfb2), (0x120000A0#32, .display2), (0x120000B0#32, .extbuf),
   (0x120000C0#32, .extdata), (0x120000D0#32, .extwrite), (0x120000E0#32, .bgcolor),
   (0x12001000#32, .csr), (0x12001010#32, .imr), (0x12001040#32, .busdir),
   (0x12001080#32, .siglblid)]

/-- The storage of a privileged register; CSR has none. -/
def privStored (r : PrivReg) (p : PrivRegs) : Option Word64 :=
  match r with
  | .pmode => some p.pmode
  | .smode1 => some p.smode1
  | .smode2 => some p.smode2
  | .srfsh => some p.srfsh
  | .synch1 => some p.synch1
  | .synch2 => some p.synch2
  | .syncv => some p.syncv
  | .dispfb1 => some p.dispfb1
  | .display1 => some p.display1
  | .dispfb2 => some p.dispfb2
  | .display2 => some p.display2
  | .extbuf => some p.extbuf
  | .extdata => some p.extdata
  | .extwrite => some p.extwrite
  | .bgcolor => some p.bgcolor
  | .csr => none
  | .imr => some p.imr
  | .busdir => some p.busdir
  | .siglblid => some p.siglblid

/-- The seven flags of CSR. -/
def csrFlags (p : PrivRegs) : List Bool :=
  [p.csrSignal, p.csrFinish, p.csrHsint, p.csrVsint, p.csrEdwint, p.csrField, p.csrNfield]

/-- Every privileged register but `r`, and every flag, is the same. -/
def onlyStored (r : PrivReg) (p p' : PrivRegs) : Prop :=
  csrFlags p' = csrFlags p ∧ ∀ r', r' ≠ r → privStored r' p' = privStored r' p

/-- The bits of CSR (45_privileged_registers.md R451). -/
def csrWord (cfg : Params) (p : PrivRegs) : BitVec 32 :=
  cfg.csrId ++ cfg.csrRev ++ 0b01#2 ++ BitVec.ofBool p.csrField ++ BitVec.ofBool p.csrNfield ++
    0#7 ++ BitVec.ofBool p.csrEdwint ++ BitVec.ofBool p.csrVsint ++ BitVec.ofBool p.csrHsint ++
    BitVec.ofBool p.csrFinish ++ BitVec.ofBool p.csrSignal

/-- The bits of a half of a register. -/
def half (part : Part) (v : Word64) : Word32 :=
  match part with
  | .low => v.extractLsb' 0 32
  | .high => v.extractLsb' 32 32

/-- DISPLAYc, DISPFBc of the displayed circuit (45_privileged_registers.md R456). -/
def shown (p : PrivRegs) : Word64 := if p.pmode.getLsbD 0 then p.display1 else p.display2
def shownBuffer (p : PrivRegs) : Word64 := if p.pmode.getLsbD 0 then p.dispfb1 else p.dispfb2

/-- The display's width and height (45_privileged_registers.md R456). -/
def displayW (p : PrivRegs) : Nat := ((shown p).extractLsb' 32 12).toNat + 1
def displayH (p : PrivRegs) : Nat := ((shown p).extractLsb' 44 11).toNat + 1

/-- The internal width and height (45_privileged_registers.md R456). -/
def internalW (p : PrivRegs) : Nat := displayW p / (((shown p).extractLsb' 23 4).toNat + 1)
def internalH (p : PrivRegs) : Nat := displayH p / (((shown p).extractLsb' 27 2).toNat + 1)

/-- Where pixel (x, y) of the displayed buffer lies (45_privileged_registers.md R457; the 5-bit PSM
is read as the 6-bit code with bit 5 zero, log entry 8). -/
def frameAt (s : State) (x y : Nat) : Except Err PixelLoc :=
  let b := shownBuffer s.priv
  locate s.cfg (0#1 ++ b.extractLsb' 15 5) (32 * (b.extractLsb' 0 9).toNat)
    (b.extractLsb' 9 6).toNat ((b.extractLsb' 32 11).toNat + x) ((b.extractLsb' 43 11).toNat + y)

/-- The errors of the pixels of the displayed buffer, one record for each pixel that fails a check,
row by row (60_exceptions.md R469; the order of the pixels is log entry 8). -/
def frameErrors (s : State) : List Err :=
  (List.range (internalW s.priv * internalH s.priv)).filterMap (fun k =>
    match frameAt s (k % internalW s.priv) (k / internalW s.priv) with
    | .ok _ => none
    | .error e => some e)

/-- The state that `reset()` makes (70_reset_and_hazards.md R490), the parameters kept (R491, log
entry 2). That the pending calls, the outputs of the call and the mark of the run are kept too is the
model's choice, log entries 1, 4 and 5. -/
def resetState (s : State) : State where
  cfg := s.cfg
  dec :=
    { decState := .awaitingTag, packetOpen := false, packetPath := .feed,
      tag := { nloop := 0, eop := false, pre := false, prim := 0, flg := 0, nreg := 0, regs := 0 },
      regCount := 16, regsLeft := 0, dataLeft := 0, packedQ := 0x3F800000#32 }
  reg :=
    { prim := 0, rgbaq := 0, st := 0, uv := 0, xyzf2 := 0, xyz2 := 0, xyzf3 := 0, xyz3 := 0,
      fog := 0, prmodecont := 0x1#64, prmode := 0, texclut := 0, scanmsk := 0, texa := 0,
      fogcol := 0, dimx := 0, dthe := 0, colclamp := 0, pabe := 0, bitbltbuf := 0, trxpos := 0,
      trxreg := 0, trxdir := 0x3#64, tex0 := ⟨0, 0⟩, clamp := ⟨0, 0⟩, tex1 := ⟨0, 0⟩,
      xyoffset := ⟨0, 0⟩, miptbp1 := ⟨0, 0⟩, miptbp2 := ⟨0, 0⟩, scissor := ⟨0, 0⟩,
      alpha := ⟨0, 0⟩, test := ⟨0, 0⟩, fba := ⟨0, 0⟩, frame := ⟨0, 0⟩, zbuf := ⟨0, 0⟩ }
  vq := []
  xfer :=
    { active := false, dir := .hostToLocal, buf := 0, pos := 0, reg := 0, total := 0, bitDepth := 0,
      pixels := 0, addr := 0, streamBits := 0, streamN := 0 }
  priv :=
    { pmode := 0, smode1 := 0, smode2 := 0, srfsh := 0, synch1 := 0, synch2 := 0, syncv := 0,
      dispfb1 := 0, display1 := 0, dispfb2 := 0, display2 := 0, extbuf := 0, extdata := 0,
      extwrite := 0, bgcolor := 0, imr := 0x7F00#64, busdir := 0, siglblid := 0,
      csrSignal := false, csrFinish := false, csrHsint := false, csrVsint := false,
      csrEdwint := false, csrField := false, csrNfield := false }
  vram := []
  inbox := s.inbox
  out := s.out
  unmodelled := s.unmodelled

/-! ### Which rows may write local memory -/

/-- The general register writes that may write VRAM: the kicks, TRXDIR and HWREG (20_memory.md
R103). -/
def idMayWriteVram (id : BitVec 8) : Bool := [0x04#8, 0x05#8, 0x53#8, 0x54#8].contains id

/-- The rows that may write VRAM (20_memory.md R103). -/
def mayWriteVram (i : Instr) : Bool :=
  match i with
  | .xyzf2 _ => true
  | .xyz2 _ => true
  | .trxdir _ => true
  | .hwreg _ => true
  | .pkXyzf2 _ _ _ _ adc => !adc
  | .pkXyz2 _ _ _ adc => !adc
  | .pkAD addr _ => idMayWriteVram addr
  | .rlXyzf2 _ => true
  | .rlXyz2 _ => true
  | .imageQword _ => true
  | .privCsr (.write64 v) => v.getLsbD 9
  | .privCsr (.write32 .low v) => v.getLsbD 9
  | .hostFeedGif _ => true
  | .hostSendPath3 _ => true
  | .hostWrite64 addr _ => (decide (addr.toNat ≤ 0xFF) && idMayWriteVram (addr.setWidth 8)) ||
      addr == 0x12001000#32
  | .hostWrite32 addr v => addr == 0x12001000#32 && v.getLsbD 9
  | .hostReset => true
  | _ => false

end Sys2Proof.Claims

open Sys2Proof Sys2Proof.Machine Sys2Proof.Claims

/-! ## The machine -/

/-- A step performs the oldest pending host call, decoded, with nothing reported yet; with no call
pending it changes nothing (00_scope.md R7, 60_exceptions.md R460). That pending calls are held in
the state is the model's choice, log entry 1. -/
def Obligations.StepRunsOldestCall : Prop :=
  ∀ s : State,
    (∀ c rest, s.inbox = c :: rest →
      step s = exec (decode s.cfg.nloopBits (.call c))
        { s with inbox := rest, out := { report := [], draws := [], result := .none } }) ∧
    (s.inbox = [] → step s = .next s)

/-- Every instruction completes in every state, keeps the parameters (70_reset_and_hazards.md R491)
and takes no other pending call: there is no trap entry (60_exceptions.md R472). -/
def Obligations.EveryInstructionCompletes : Prop :=
  ∀ (i : Instr) (s : State), ∃ t, exec i s = .next t ∧ t.cfg = s.cfg ∧ t.inbox = s.inbox

/-- The report of a call only grows, and the mark of the run is set by an E_UNMODELLED and by
nothing else, and never cleared (60_exceptions.md R460, R465; the mark is log entry 5). -/
def Obligations.ReportGrowsAndMarksUnmodelled : Prop :=
  ∀ (i : Instr) (s t : State), exec i s = .next t →
    ∃ es : List Err, t.out.report = s.out.report ++ es ∧
      (t.unmodelled = true ↔ s.unmodelled = true ∨ ∃ e ∈ es, errCode e = 6)

/-- Reset gives every element the value of 70_reset_and_hazards.md R490, all at once, and an empty
report; a second reset changes nothing more (R493); the machine starts in that state (R491). That a
reset keeps the pending calls, the outputs of the call and the mark of the run is the model's choice,
log entries 1, 4 and 5. -/
def Obligations.ResetGivesEveryElementItsValue : Prop :=
  (∀ s : State, exec .hostReset s = .next (resetState s) ∧
    exec .hostReset (resetState s) = .next (resetState s)) ∧
  (∀ (s : State) (rest : List Call), s.inbox = .reset :: rest →
    ∃ t, step s = .next t ∧ t.out.report = [] ∧ t = { resetState s with
      inbox := rest, out := { report := [], draws := [], result := .none } }) ∧
  State.reset = { resetState State.reset with inbox := [], unmodelled := false }

/-- The state right after reset meets the invariant of Safety. -/
def Obligations.ResetMeetsInv : Prop := Inv State.reset

/-- Every step keeps the invariant of Safety: the decoder's counters (10_state.md R23), the vertex
queue (43_primitive_assembler.md R366), the transfer engine (44_transfer_engine.md R398), memory in
its form and inside the buffer (20_memory.md R120), NFIELD and EDWINT clear
(45_privileged_registers.md R455). -/
def Obligations.StepKeepsInv : Prop :=
  ∀ s t : State, Inv s → step s = .next t → Inv t

/-! ## Encodings -/

/-- Decoding the encoding of a well-formed instruction gives the instruction back, for every row and
every operand. -/
def Obligations.DecodeOfEncode : Prop :=
  ∀ (nb : NloopBits) (i : Instr), i.wellFormed nb = true → decode nb (encode i) = i

/-- Words written out from the encodings of 30_encoding.md decode to the instructions they stand
for. -/
def Obligations.WordsDecode : Prop :=
  decode .bits15 (.tag .feed 0x00000000000000512000000000008003#128) =
    .giftagPacked .feed { nloop := 3, eop := true, pre := false, prim := 0, nreg := 2, regs := 0x51 } ∧
  decode .bits14 (.tag .path3 0x00000000000000000001C0000000C001#128) =
    .giftagPacked .path3 { nloop := 1, eop := true, pre := true, prim := 3, nreg := 0, regs := 0 } ∧
  decode .bits15 (.packed 0x1#4 0x00000010000000200000004000000080#128) =
    .pkRgbaq 0x80 0x40 0x20 0x10 ∧
  decode .bits15 (.packed 0x4#4 0x00008070000000500000020000000100#128) =
    .pkXyzf2 0x100 0x200 0x5 0x7 true ∧
  decode .bits15 (.slot 0x5#4 0x0000000500020001#64) = .rlXyz2 0x0000000500020001#64 ∧
  decode .bits15 (.reg .ad 0x54#8 7#64) = .hwreg 7#64 ∧
  decode .bits15 (.priv .w32 0x12001014#32 1#64) = .privImr (.write32 .high 1#32)

/-- Tag bits that no field names are ignored, and every word is one of the four tags
(30_encoding.md R156). -/
def Obligations.UnnamedTagBitsIgnored : Prop :=
  (∀ (nb : NloopBits) (path : Path) (q q' : Qword),
    (∀ i, named nb i → q.getLsbD i = q'.getLsbD i) →
    decode nb (.tag path q) = decode nb (.tag path q')) ∧
  (∀ (nb : NloopBits) (path : Path) (q : Qword), ∃ row ∈ tagRows, ∃ t,
    decode nb (.tag path q) = row.2 path t)

/-- The fields of the PACKED payload qwords are where 30_encoding.md R157 and 41_packed.md put
them; every bit that no field names is ignored. -/
def Obligations.PackedFieldsDecode : Prop :=
  ∀ (nb : NloopBits) (q : Qword),
    decode nb (.packed 0x0#4 q) = .pkPrim (q.extractLsb' 0 11) ∧
    decode nb (.packed 0x1#4 q) = .pkRgbaq (q.extractLsb' 0 8) (q.extractLsb' 32 8)
      (q.extractLsb' 64 8) (q.extractLsb' 96 8) ∧
    decode nb (.packed 0x2#4 q) = .pkSt (q.extractLsb' 0 32) (q.extractLsb' 32 32)
      (q.extractLsb' 64 32) ∧
    decode nb (.packed 0x3#4 q) = .pkUv (q.extractLsb' 0 14) (q.extractLsb' 32 14) ∧
    decode nb (.packed 0x4#4 q) = .pkXyzf2 (q.extractLsb' 0 16) (q.extractLsb' 32 16)
      (q.extractLsb' 68 24) (q.extractLsb' 100 8) (q.getLsbD 111) ∧
    decode nb (.packed 0x5#4 q) = .pkXyz2 (q.extractLsb' 0 16) (q.extractLsb' 32 16)
      (q.extractLsb' 64 32) (q.getLsbD 111) ∧
    decode nb (.packed 0x6#4 q) = .pkTex0_1 (q.extractLsb' 0 64) ∧
    decode nb (.packed 0x7#4 q) = .pkTex0_2 (q.extractLsb' 0 64) ∧
    decode nb (.packed 0x8#4 q) = .pkClamp_1 (q.extractLsb' 0 64) ∧
    decode nb (.packed 0x9#4 q) = .pkClamp_2 (q.extractLsb' 0 64) ∧
    decode nb (.packed 0xA#4 q) = .pkFog (q.extractLsb' 100 8) ∧
    decode nb (.packed 0xB#4 q) = .pkReservedB ∧
    decode nb (.packed 0xC#4 q) = .pkXyzf3 (q.extractLsb' 0 16) (q.extractLsb' 32 16)
      (q.extractLsb' 68 24) (q.extractLsb' 100 8) (q.getLsbD 111) ∧
    decode nb (.packed 0xD#4 q) = .pkXyz3 (q.extractLsb' 0 16) (q.extractLsb' 32 16)
      (q.extractLsb' 64 32) (q.getLsbD 111) ∧
    decode nb (.packed 0xE#4 q) = .pkAD (q.extractLsb' 64 8) (q.extractLsb' 0 64) ∧
    decode nb (.packed 0xF#4 q) = .pkNop

/-- The ids without a mapping are those of 30_encoding.md R162; a write to one is reported and
changes no state; every other id is some register's. -/
def Obligations.UnmappedIdsAreReported : Prop :=
  ∀ (nb : NloopBits) (src : Src) (id : BitVec 8) (v : Word64),
    (isUnmapped id = true →
      decode nb (.reg src id v) = .unmappedId src id v ∧
      ∀ s : State, exec (.unmappedId src id v) s = .next (reporting [.unknownReg src id] s)) ∧
    (isUnmapped id = false → ∃ r : GReg, r.id = id ∧ decode nb (.reg src id v) = r.instr v)

/-- `PrivDecode`: the base addresses of 30_encoding.md R170 are the low halves, base + 4 the high
halves, and no other address is mapped (45_privileged_registers.md R430). -/
def Obligations.PrivilegedAddressMap : Prop :=
  (∀ row ∈ privTable, privDecode row.1 = some (row.2, .low) ∧
    privDecode (row.1 + 4#32) = some (row.2, .high)) ∧
  (∀ a : Word32, (∀ row ∈ privTable, a ≠ row.1 ∧ a ≠ row.1 + 4#32) → privDecode a = none)

/-! ## General registers -/

/-- The write of a register that only stores stores all 64 bits, in the copy its id names, and
changes nothing else (10_state.md R24). -/
def Obligations.StoresKeepAllBits : Prop :=
  ∀ (r : GReg) (v : Word64) (s : State), r ∈ singleStores ++ ownCopyStores →
    ∃ f : RegFile, exec (r.instr v) s = .next { s with reg := f } ∧ stored r f = some v ∧
      ∀ r' : GReg, r' ≠ r → stored r' f = stored r' s.reg

/-- A write to XYOFFSET, SCISSOR, TEST, FRAME or ZBUF reaches the copy of the active context,
whichever of the two ids carries it, or the id's own copy under P_CTX_WRITE_BY_ADDRESS
(42_general_registers.md R281). -/
def Obligations.ActiveContextIsWritten : Prop :=
  ∀ (v : Word64) (s : State),
    exec (.xyoffset_1 v) s = .next { s with reg := { s.reg with
      xyoffset := setCopy s.reg.xyoffset (copyReached s .c1) v } } ∧
    exec (.xyoffset_2 v) s = .next { s with reg := { s.reg with
      xyoffset := setCopy s.reg.xyoffset (copyReached s .c2) v } } ∧
    exec (.scissor_1 v) s = .next { s with reg := { s.reg with
      scissor := setCopy s.reg.scissor (copyReached s .c1) v } } ∧
    exec (.scissor_2 v) s = .next { s with reg := { s.reg with
      scissor := setCopy s.reg.scissor (copyReached s .c2) v } } ∧
    exec (.test_1 v) s = .next { s with reg := { s.reg with
      test := setCopy s.reg.test (copyReached s .c1) v } } ∧
    exec (.test_2 v) s = .next { s with reg := { s.reg with
      test := setCopy s.reg.test (copyReached s .c2) v } } ∧
    exec (.frame_1 v) s = .next { s with reg := { s.reg with
      frame := setCopy s.reg.frame (copyReached s .c1) v } } ∧
    exec (.frame_2 v) s = .next { s with reg := { s.reg with
      frame := setCopy s.reg.frame (copyReached s .c2) v } } ∧
    exec (.zbuf_1 v) s = .next { s with reg := { s.reg with
      zbuf := setCopy s.reg.zbuf (copyReached s .c1) v } } ∧
    exec (.zbuf_2 v) s = .next { s with reg := { s.reg with
      zbuf := setCopy s.reg.zbuf (copyReached s .c2) v } }

/-- TEX2 replaces bits [25:20] and [63:37] of TEX0 of its copy, PSM and the CLUT fields, and keeps
every other bit and every other element (42_general_registers.md R297, R298). -/
def Obligations.Tex2MergesIntoTex0 : Prop :=
  ∀ (v : Word64) (s : State),
    (∃ w, exec (.tex2_1 v) s = .next { s with reg := { s.reg with
        tex0 := { c1 := w, c2 := s.reg.tex0.c2 } } } ∧
      ∀ i < 64, w.getLsbD i = if (20 ≤ i ∧ i ≤ 25) ∨ 37 ≤ i then v.getLsbD i
        else s.reg.tex0.c1.getLsbD i) ∧
    (∃ w, exec (.tex2_2 v) s = .next { s with reg := { s.reg with
        tex0 := { c1 := s.reg.tex0.c1, c2 := w } } } ∧
      ∀ i < 64, w.getLsbD i = if (20 ≤ i ∧ i ≤ 25) ∨ 37 ≤ i then v.getLsbD i
        else s.reg.tex0.c2.getLsbD i)

/-- A PRIM write stores PRIM and empties the vertex queue, from every path: the register row, a
PACKED descriptor, a REGLIST slot, an A+D, a host `write64`, a tag's PRE, which changes besides only
the decoder (42_general_registers.md R282, 43_primitive_assembler.md R364). -/
def Obligations.PrimEmptiesTheQueue : Prop :=
  ∀ (v : Word64) (p : BitVec 11) (s : State),
    exec (.prim v) s = .next { s with reg := { s.reg with prim := v }, vq := [] } ∧
    exec (.rlPrim v) s = .next { s with reg := { s.reg with prim := v }, vq := [] } ∧
    exec (.pkAD 0x00#8 v) s = .next { s with reg := { s.reg with prim := v }, vq := [] } ∧
    exec (.hostWrite64 0x00#32 v) s = .next { s with reg := { s.reg with prim := v }, vq := [] } ∧
    exec (.pkPrim p) s = .next { s with reg := { s.reg with prim := 0#53 ++ p }, vq := [] } ∧
    ∀ row ∈ tagRows, ∀ (path : Path) (t : TagFields), t.pre = true →
      ∃ d : Decoder, exec (row.2 path t) s = .next { s with
        dec := d
        reg := { s.reg with prim := 0#53 ++ t.prim }
        vq := [] }

/-- No register write but those of PRIM and the four XYZ registers changes the vertex queue
(43_primitive_assembler.md R364). -/
def Obligations.OtherWritesKeepTheQueue : Prop :=
  ∀ (r : GReg) (v : Word64) (s t : State),
    r ∉ [GReg.prim, GReg.xyzf2, GReg.xyz2, GReg.xyzf3, GReg.xyz3] →
    exec (r.instr v) s = .next t → t.vq = s.vq

/-- SIGNAL merges its id into SIGLBLID[31:0] under its mask and sets CSR.SIGNAL; a SIGNAL still
pending is reported and the write performed all the same (42_general_registers.md R333). -/
def Obligations.SignalMergesItsId : Prop :=
  ∀ (v : Word64) (s : State), ∃ w : Word64,
    exec (.signal v) s = .next { reporting
      (if s.priv.csrSignal then [.unmodelled .signalPending] else []) s with
      priv := { s.priv with siglblid := w, csrSignal := true } } ∧
    ∀ i < 64, w.getLsbD i =
      if i < 32 ∧ v.getLsbD (i + 32) = true then v.getLsbD i else s.priv.siglblid.getLsbD i

/-- FINISH sets its flag; LABEL merges its id into SIGLBLID[63:32] under its mask and sets no flag;
TEXFLUSH changes nothing (42_general_registers.md R334, R335, R311). -/
def Obligations.FinishLabelAndTexflush : Prop :=
  ∀ (v : Word64) (s : State),
    exec (.finish v) s = .next { s with priv := { s.priv with csrFinish := true } } ∧
    (∃ w : Word64, exec (.label v) s = .next { s with priv := { s.priv with siglblid := w } } ∧
      ∀ i < 64, w.getLsbD i =
        if 32 ≤ i ∧ v.getLsbD i = true then v.getLsbD (i - 32) else s.priv.siglblid.getLsbD i) ∧
    exec (.texflush v) s = .next s

/-! ## Vertices and draws -/

/-- An XYZ write that does not complete a primitive stores its register, F into FOG for the XYZF
rows, and queues the vertex captured from the attributes current then (42_general_registers.md R286,
R287, R293, R294; 43_primitive_assembler.md R350, R352). -/
def Obligations.VertexIsQueued : Prop :=
  ∀ row ∈ xyzRows, ∀ (v : Word64) (s : State),
    s.vq.length + 1 < needed (typeCode s.reg) →
    exec (row.instr v) s = .next { s with reg := row.file v s, vq := row.queue v s }

/-- A kick that completes a primitive emits one draw event of the whole queue, gives it to the
rasterizer, and keeps what the type keeps (43_primitive_assembler.md R352 to R355, R351). That the
rasterizer's change of VRAM is a list of word writes, those out of bounds left out, is the model's
form of R354, log entry 3. -/
def Obligations.KickDraws : Prop :=
  ∀ row ∈ xyzRows, row.kick = true → ∀ (v : Word64) (s : State),
    typeCode s.reg ≠ 7#3 → s.vq.length + 1 = needed (typeCode s.reg) →
    exec (row.instr v) s = .next { s with
      reg := row.file v s
      vq := kept (typeCode s.reg) (row.queue v s)
      vram := writeWords s.cfg s.vram
        (Config.rasterize (row.event v s) (row.file v s) s.vram)
      out := { s.out with draws := s.out.draws ++ [row.event v s] } }

/-- A commit without a kick advances the queue exactly as a kick would and emits no draw
(43_primitive_assembler.md R365). -/
def Obligations.NoKickDrawsNothing : Prop :=
  ∀ row ∈ xyzRows, row.kick = false → ∀ (v : Word64) (s : State),
    s.vq.length + 1 = needed (typeCode s.reg) →
    exec (row.instr v) s = .next { s with
      reg := row.file v s
      vq := kept (typeCode s.reg) (row.queue v s) }

/-- A commit of type 7 empties the queue and draws nothing; a kick also raises E_PRIM_RESERVED with
the PRIM value (43_primitive_assembler.md R363). -/
def Obligations.ReservedTypeIsReported : Prop :=
  ∀ row ∈ xyzRows, ∀ (v : Word64) (s : State), typeCode s.reg = 7#3 →
    exec (row.instr v) s = .next { reporting
      (if row.kick then [.primReserved s.reg.prim] else []) s with
      reg := row.file v s
      vq := [] }

/-- From an empty queue, a run of XYZ2 writes emits exactly the primitives of its type: points,
pairs, triples and sprites one after the other; every pair of neighbours for a line strip; every
three neighbours for a triangle strip; the first vertex with every later pair for a fan
(43_primitive_assembler.md R356 to R362). -/
def Obligations.RunOfVerticesDrawsItsPrimitives : Prop :=
  ∀ (vs : List Word64) (s : State), s.vq = [] → typeCode s.reg ≠ 7#3 →
    ∃ t, runAll (vs.map Instr.xyz2) s = .next t ∧
      t.out.report = s.out.report ∧
      t.out.draws.map DrawEvent.verts = s.out.draws.map DrawEvent.verts ++
        primitives (typeCode s.reg)
          (vs.map (fun v => vertexOf s.reg v (v.extractLsb' 32 32)))

/-! ## PACKED and REGLIST -/

/-- Every PACKED descriptor is the general register write that 41_packed.md names, with the value
assembled from its fields (R251 to R261, R263, R264); ST also latches its Q, RGBAQ takes the latched
Q, and ADC = 1 takes the kick away. -/
def Obligations.PackedRowsWriteRegisters : Prop :=
  ∀ s : State,
    (∀ p, ∃ t, exec (.pkPrim p) s = .next t ∧ exec (.prim (0#53 ++ p)) s = .next t) ∧
    (∀ r g b a, ∃ t, exec (.pkRgbaq r g b a) s = .next t ∧
      exec (.rgbaq (s.dec.packedQ ++ a ++ b ++ g ++ r)) s = .next t) ∧
    (∀ sc tc qc, ∃ t, exec (.pkSt sc tc qc) s =
        .next { t with dec := { s.dec with packedQ := qc } } ∧
      exec (.st (tc ++ sc)) s = .next t) ∧
    (∀ uc vc, ∃ t, exec (.pkUv uc vc) s = .next t ∧
      exec (.uv (0#34 ++ vc ++ 0#2 ++ uc)) s = .next t) ∧
    (∀ x y z f, ∃ t, exec (.pkXyzf2 x y z f false) s = .next t ∧
      exec (.xyzf2 (f ++ z ++ y ++ x)) s = .next t) ∧
    (∀ x y z f, ∃ t, exec (.pkXyzf2 x y z f true) s = .next t ∧
      exec (.xyzf3 (f ++ z ++ y ++ x)) s = .next t) ∧
    (∀ x y z, ∃ t, exec (.pkXyz2 x y z false) s = .next t ∧
      exec (.xyz2 (z ++ y ++ x)) s = .next t) ∧
    (∀ x y z, ∃ t, exec (.pkXyz2 x y z true) s = .next t ∧
      exec (.xyz3 (z ++ y ++ x)) s = .next t) ∧
    (∀ v, ∃ t, exec (.pkTex0_1 v) s = .next t ∧ exec (.tex0_1 v) s = .next t) ∧
    (∀ v, ∃ t, exec (.pkTex0_2 v) s = .next t ∧ exec (.tex0_2 v) s = .next t) ∧
    (∀ v, ∃ t, exec (.pkClamp_1 v) s = .next t ∧ exec (.clamp_1 v) s = .next t) ∧
    (∀ v, ∃ t, exec (.pkClamp_2 v) s = .next t ∧ exec (.clamp_2 v) s = .next t) ∧
    (∀ f : BitVec 8, ∃ t, exec (.pkFog f) s = .next t ∧ exec (.fog (f ++ 0#56)) s = .next t) ∧
    (∀ x y z f adc, ∃ t, exec (.pkXyzf3 x y z f adc) s = .next t ∧
      exec (.xyzf3 (f ++ z ++ y ++ x)) s = .next t) ∧
    (∀ x y z adc, ∃ t, exec (.pkXyz3 x y z adc) s = .next t ∧
      exec (.xyz3 (z ++ y ++ x)) s = .next t)

/-- Descriptor 0xB is reported and writes nothing; 0xF does nothing; A+D is the write of the general
register of its address, or the report of an unmapped id (41_packed.md R262, R265, R266). -/
def Obligations.PackedReservedNopAndAD : Prop :=
  ∀ (nb : NloopBits) (s : State),
    exec .pkReservedB s = .next (reporting [.unknownReg .packed 0x0B#8] s) ∧
    exec .pkNop s = .next s ∧
    ∀ (addr : BitVec 8) (v : Word64), ∃ t, exec (.pkAD addr v) s = .next t ∧
      exec (decode nb (.reg .ad addr v)) s = .next t

/-- A REGLIST slot is the write of the general register whose id is its descriptor, in the
register's own format; 0xE and 0xF write nothing, 0xB is reported (40_gif_decoder.md R218). -/
def Obligations.ReglistRowsWriteRegisters : Prop :=
  ∀ (v : Word64) (s : State),
    (∃ t, exec (.rlPrim v) s = .next t ∧ exec (.prim v) s = .next t) ∧
    (∃ t, exec (.rlRgbaq v) s = .next t ∧ exec (.rgbaq v) s = .next t) ∧
    (∃ t, exec (.rlSt v) s = .next t ∧ exec (.st v) s = .next t) ∧
    (∃ t, exec (.rlUv v) s = .next t ∧ exec (.uv v) s = .next t) ∧
    (∃ t, exec (.rlXyzf2 v) s = .next t ∧ exec (.xyzf2 v) s = .next t) ∧
    (∃ t, exec (.rlXyz2 v) s = .next t ∧ exec (.xyz2 v) s = .next t) ∧
    (∃ t, exec (.rlTex0_1 v) s = .next t ∧ exec (.tex0_1 v) s = .next t) ∧
    (∃ t, exec (.rlTex0_2 v) s = .next t ∧ exec (.tex0_2 v) s = .next t) ∧
    (∃ t, exec (.rlClamp_1 v) s = .next t ∧ exec (.clamp_1 v) s = .next t) ∧
    (∃ t, exec (.rlClamp_2 v) s = .next t ∧ exec (.clamp_2 v) s = .next t) ∧
    (∃ t, exec (.rlFog v) s = .next t ∧ exec (.fog v) s = .next t) ∧
    exec (.rlReservedB v) s = .next (reporting [.unknownReg .reglist 0x0B#8] s) ∧
    (∃ t, exec (.rlXyzf3 v) s = .next t ∧ exec (.xyzf3 v) s = .next t) ∧
    (∃ t, exec (.rlXyz3 v) s = .next t ∧ exec (.xyz3 v) s = .next t) ∧
    exec (.rlNoneE v) s = .next s ∧
    exec (.rlNoneF v) s = .next s

/-! ## The packet decoder -/

/-- A tag latches its fields, opens the packet on its path, writes PRIM and empties the queue when
PRE = 1, and starts its counters; a tag without payload is exhausted at once, and EOP = 1 then ends
the packet (40_gif_decoder.md R204 to R210, R214, R215). -/
def Obligations.TagsStartTheirPayload : Prop :=
  ∀ row ∈ tagRows, ∀ (path : Path) (t : TagFields) (s : State),
    exec (row.2 path t) s = .next { s with
      dec :=
        { decState := if payload row.1 t.nloop.toNat t.nreg = 0 then .awaitingTag else .processing
          packetOpen := !(payload row.1 t.nloop.toNat t.nreg == 0 && t.eop)
          packetPath := path
          tag := { nloop := t.nloop, eop := t.eop, pre := t.pre, prim := t.prim, flg := row.1,
                   nreg := t.nreg, regs := t.regs }
          regCount := descriptors t.nreg
          regsLeft := if payload row.1 t.nloop.toNat t.nreg = 0 ∨ 2 ≤ row.1.toNat then 0
            else descriptors t.nreg
          dataLeft := payload row.1 t.nloop.toNat t.nreg
          packedQ := s.dec.packedQ }
      reg := { s.reg with prim := if t.pre then 0#53 ++ t.prim else s.reg.prim }
      vq := if t.pre then [] else s.vq }

/-- A qword of the other path is reported and discarded while a packet is open; any other qword is a
tag in AWAITING_TAG (40_gif_decoder.md R200, R202, R203). -/
def Obligations.IngressChecksThePath : Prop :=
  ∀ (path : Path) (q : Qword) (s : State),
    (s.dec.packetOpen = true → path ≠ s.dec.packetPath →
      exec (ingress path q) s = .next (reporting [.pathInterleave path s.dec.packetPath] s)) ∧
    (accepts path s.dec → s.dec.decState = .awaitingTag →
      ∃ t, exec (decode s.cfg.nloopBits (.tag path q)) s = .next t ∧
        exec (ingress path q) s = .next t)

/-- A PACKED payload qword is read under the current descriptor, then counted
(40_gif_decoder.md R211). -/
def Obligations.PackedQwordIsCounted : Prop :=
  ∀ (path : Path) (q : Qword) (s : State),
    accepts path s.dec → s.dec.decState = .processing → s.dec.tag.flg = 0#2 →
    ∃ m, exec (decode s.cfg.nloopBits (.packed (currentDescriptor s.dec) q)) s = .next m ∧
      exec (ingress path q) s = .next { m with dec := afterUnit m.dec } ∧
      m.dec = { s.dec with packedQ := m.dec.packedQ }

/-- A REGLIST payload qword is its low slot, then its high slot unless the low one exhausted the
tag, each read under the descriptor current then and counted (40_gif_decoder.md R212). -/
def Obligations.ReglistQwordIsTwoSlots : Prop :=
  ∀ (path : Path) (q : Qword) (s : State),
    accepts path s.dec → s.dec.decState = .processing → s.dec.tag.flg = 1#2 →
    ∃ m, exec (decode s.cfg.nloopBits (.slot (currentDescriptor s.dec) (q.extractLsb' 0 64))) s =
        .next m ∧
      (s.dec.dataLeft ≤ 1 → exec (ingress path q) s = .next { m with dec := afterUnit m.dec }) ∧
      (1 < s.dec.dataLeft →
        ∃ n, exec (decode s.cfg.nloopBits (.slot (currentDescriptor (afterUnit s.dec))
            (q.extractLsb' 64 64))) { m with dec := afterUnit m.dec } = .next n ∧
          exec (ingress path q) s = .next { n with dec := afterUnit n.dec })

/-- An IMAGE payload qword is two HWREG words, low half first, the high half discarded when the low
half completed the transfer; then it is counted (40_gif_decoder.md R213, R209). -/
def Obligations.ImageQwordIsTwoHwregWords : Prop :=
  ∀ (q : Qword) (s : State),
    (∃ m, exec (.hwreg (q.extractLsb' 0 64)) s = .next m ∧
      ∃ n, (if s.xfer.active = true ∧ m.xfer.active = false then n = m
          else exec (.hwreg (q.extractLsb' 64 64)) m = .next n) ∧
        exec (.imageQword q) s = .next { n with dec := afterImage s.dec }) ∧
    (∀ path, accepts path s.dec → s.dec.decState = .processing → 2 ≤ s.dec.tag.flg.toNat →
      ∃ t, exec (ingress path q) s = .next t ∧ exec (.imageQword q) s = .next t)

/-- `end_of_stream` on the path of an open packet reports the truncation, with the payload left or
for want of EOP, and changes nothing; on the other path, or with no packet open, it does nothing
(40_gif_decoder.md R216). -/
def Obligations.EndOfStreamReportsTruncation : Prop :=
  ∀ (path : Path) (s : State),
    exec (.hostEndOfStream path) s = .next
      (if s.dec.packetOpen = true ∧ path = s.dec.packetPath then
        (if s.dec.decState = .processing then reporting [.truncatedPayload s.dec.dataLeft] s
          else reporting [.truncatedNoEop] s)
      else s)

/-- After a tag with EOP = 1 and exactly the qwords it declares the decoder awaits a tag of either
path with no packet open, and not before (40_gif_decoder.md R221, 30_encoding.md R160). -/
def Obligations.PayloadLengthIsExact : Prop :=
  ∀ (path : Path) (q : Qword) (qs : List Qword) (s : State),
    s.dec.decState = .awaitingTag → accepts path s.dec → q.getLsbD 15 = true →
    ∃ t, runAll ((q :: qs).map (ingress path)) s = .next t ∧
      (qs.length < declared s.cfg.nloopBits q → t.dec.decState = .processing) ∧
      (qs.length = declared s.cfg.nloopBits q →
        t.dec.decState = .awaitingTag ∧ t.dec.packetOpen = false ∧
        ∀ (path' : Path) (q' : Qword),
          exec (ingress path' q') t = exec (decode t.cfg.nloopBits (.tag path' q')) t)

/-- The two paths decode identically: a qword on FEED and the same qword on PATH3, in states that
differ only in the path of the open packet, do the same (40_gif_decoder.md R201). -/
def Obligations.PathsDecodeIdentically : Prop :=
  ∀ (q : Qword) (s : State), accepts .feed s.dec →
    ∃ t, exec (.hostFeedGif q) s = .next t ∧
      exec (.hostSendPath3 q) { s with dec := { s.dec with packetPath := .path3 } } =
        .next { t with dec := { t.dec with packetPath := .path3 } }

/-- The GIF paths reach no privileged register but SIGLBLID and the SIGNAL and FINISH flags, which
they only set (60_exceptions.md R474, R471). -/
def Obligations.GifPathsReachNoPrivilegedRegister : Prop :=
  ∀ (path : Path) (q : Qword) (s t : State), exec (ingress path q) s = .next t →
    t.priv = { s.priv with siglblid := t.priv.siglblid, csrSignal := t.priv.csrSignal,
                           csrFinish := t.priv.csrFinish } ∧
    (s.priv.csrSignal = true → t.priv.csrSignal = true) ∧
    (s.priv.csrFinish = true → t.priv.csrFinish = true)

/-! ## Local memory -/

/-- A pixel access makes its checks in the order of 60_exceptions.md R469, invalid PSM, odd width,
bounds; the first that fails is reported, a read gives 0, a write writes nothing
(20_memory.md R104, R114, R120). -/
def Obligations.PixelChecksInOrder : Prop :=
  ∀ (code : BitVec 6) (bp bw x y : Nat) (v : Word32) (s : State),
    (modeBits code = none →
      pixWrite code bp bw x y v s = reporting [.unmodelled (.psm code)] s ∧
      pixRead code bp bw x y s = ((0#32, false), reporting [.unmodelled (.psm code)] s)) ∧
    (s.cfg.oddBwPolicy = .refuse → bw % 2 = 1 → (code = 0x13#6 ∨ code = 0x14#6) →
      pixWrite code bp bw x y v s = reporting [.unmodelled (.oddWidth bw)] s ∧
      pixRead code bp bw x y s = ((0#32, false), reporting [.unmodelled (.oddWidth bw)] s)) ∧
    (∀ p, psmOf code = some p →
      ¬ (s.cfg.oddBwPolicy = .refuse ∧ bw % 2 = 1 ∧ (code = 0x13#6 ∨ code = 0x14#6)) →
      s.cfg.vramWords ≤ (pixelLoc p bp bw x y).word →
      pixWrite code bp bw x y v s =
        reporting [.bounds code x y (pixelLoc p bp bw x y).word] s ∧
      pixRead code bp bw x y s =
        ((0#32, false), reporting [.bounds code x y (pixelLoc p bp bw x y).word] s))

/-- A pixel that passes its checks reads back the low bits written to it, bit by bit; every other
bit of its word, and every byte of every other word, is as before (20_memory.md R115, R116). -/
def Obligations.PixelReadsBackAndKeepsTheRest : Prop :=
  ∀ (code : BitVec 6) (bp bw x y : Nat) (v : Word32) (s : State) (l : PixelLoc),
    s.vram.wf → locate s.cfg code bp bw x y = .ok l →
    ∃ m, pixWrite code bp bw x y v s = { s with vram := m } ∧
      (∀ i < 32, (readWord m l.word).getLsbD i =
        if l.lo ≤ i ∧ i < l.lo + l.width then v.getLsbD (i - l.lo)
        else (readWord s.vram l.word).getLsbD i) ∧
      (∃ p, pixRead code bp bw x y { s with vram := m } = ((p, true), { s with vram := m }) ∧
        ∀ i < 32, p.getLsbD i = (decide (i < l.width) && v.getLsbD i)) ∧
      (∀ a, a / 4 ≠ l.word → readByte m a = readByte s.vram a)

/-- Inside a page no two pixels of a mode share a location: the block and column tables are
permutations (20_memory.md R106, R107). -/
def Obligations.PixelsOfAPageAreDistinct : Prop :=
  ∀ (p : Psm) (bp bw x y x' y' : Nat),
    x / (pageSize p).1 = x' / (pageSize p).1 → y / (pageSize p).2 = y' / (pageSize p).2 →
    pixelLoc p bp bw x y = pixelLoc p bp bw x' y' → x = x' ∧ y = y'

/-- The offsets of a transfer's pixels lie in its rectangle, each offset once, in every order
(44_transfer_engine.md R387). -/
def Obligations.PixelOrderCoversTheRectangle : Prop :=
  ∀ (w h : Nat) (o : BitVec 2),
    (∀ k < w * h, (pixelXY w h k o).1 < w ∧ (pixelXY w h k o).2 < h) ∧
    (∀ x < w, ∀ y < h, ∃ k, k < w * h ∧ pixelXY w h k o = (x, y) ∧
      ∀ k' < w * h, pixelXY w h k' o = (x, y) → k' = k)

/-- Only the kicks, TRXDIR, HWREG, IMAGE data and reset write VRAM; every byte is as before after
any other instruction (20_memory.md R103). -/
def Obligations.OnlyListedRowsWriteVram : Prop :=
  ∀ (i : Instr) (s t : State), mayWriteVram i = false → exec i s = .next t →
    ∀ a, readByte t.vram a = readByte s.vram a

/-! ## The transfer engine -/

/-- A TRXDIR write with XDIR 0 or 1 latches BITBLTBUF, TRXPOS and TRXREG and arms the transfer; an
empty one, and an invalid one, end at once with TRXDIR off (44_transfer_engine.md R381 to R386,
R390). -/
def Obligations.TrxdirArmsHostTransfers : Prop :=
  ∀ row ∈ directions, row.2 ≠ .localToLocal → ∀ (v : Word64) (s : State),
    v.extractLsb' 0 2 = row.1 →
    (∀ d, depthOf row.2 s.reg.bitbltbuf = some d →
      (width s.reg.trxreg * height s.reg.trxreg ≠ 0 →
        exec (.trxdir v) s = .next { s with
          reg := { s.reg with trxdir := v }
          xfer := latched s.reg row.2 true d 0 }) ∧
      (width s.reg.trxreg * height s.reg.trxreg = 0 →
        exec (.trxdir v) s = .next { s with
          reg := { s.reg with trxdir := v ||| 0x3#64 }
          xfer := latched s.reg row.2 false d 0 })) ∧
    (depthOf row.2 s.reg.bitbltbuf = none → ∃ e, refusedFor row.2 s.reg.bitbltbuf e ∧
      exec (.trxdir v) s = .next { reporting [.unmodelled e] s with
        reg := { s.reg with trxdir := v ||| 0x3#64 }
        xfer := latched s.reg row.2 false 0 0 })

/-- A TRXDIR write with XDIR 2 copies every pixel in order, each read before it is written and
before the next is read, and ends with TRXDIR off; an empty copy moves nothing, an invalid one is
refused (44_transfer_engine.md R389, R382, R386, R388, R390, R397). -/
def Obligations.TrxdirCopiesLocally : Prop :=
  ∀ (v : Word64) (s : State), v.extractLsb' 0 2 = 2#2 →
    (∀ d, depthOf .localToLocal s.reg.bitbltbuf = some d →
      ∃ x, x = latched s.reg .localToLocal false d (width s.reg.trxreg * height s.reg.trxreg) ∧
      ∃ m, m = copied s.cfg x (s.reg.trxpos.extractLsb' 59 2) x.total s.vram ∧
        exec (.trxdir v) s = .next { reporting m.2 s with
          reg := { s.reg with trxdir := v ||| 0x3#64 }
          xfer := x
          vram := m.1 }) ∧
    (depthOf .localToLocal s.reg.bitbltbuf = none →
      ∃ e, refusedFor .localToLocal s.reg.bitbltbuf e ∧
        exec (.trxdir v) s = .next { reporting [.unmodelled e] s with
          reg := { s.reg with trxdir := v ||| 0x3#64 }
          xfer := latched s.reg .localToLocal false 0 0 })

/-- A TRXDIR write with XDIR 3 ends an active transfer at once, its buffered bits discarded, and
moves nothing; with none active it changes only TRXDIR (44_transfer_engine.md R384). -/
def Obligations.TrxdirOffCancels : Prop :=
  ∀ (v : Word64) (s : State), v.extractLsb' 0 2 = 3#2 →
    (s.xfer.active = true → exec (.trxdir v) s = .next { s with
      reg := { s.reg with trxdir := v }
      xfer := { s.xfer with active := false, streamBits := 0, streamN := 0 } }) ∧
    (s.xfer.active = false → exec (.trxdir v) s = .next { s with
      reg := { s.reg with trxdir := v } })

/-- An HWREG write with an active host-to-local transfer writes the whole pixels that the stream
then holds, in row-major order, and keeps the rest of the bits; the last pixel ends the transfer,
its remaining bits discarded (44_transfer_engine.md R391 to R393, R388, R390, R397). -/
def Obligations.HwregWriteTakesPixels : Prop :=
  ∀ (v : Word64) (s : State),
    s.xfer.active = true → s.xfer.dir = .hostToLocal → 0 < s.xfer.bitDepth →
    s.xfer.streamBits < 2 ^ s.xfer.streamN → s.xfer.pixels ≤ s.xfer.total →
    ∃ k, k = wholePixels s.xfer (s.xfer.streamN + 64) ∧
    ∃ b, b = s.xfer.streamBits + v.toNat * 2 ^ s.xfer.streamN ∧
    ∃ m, m = received s.cfg s.xfer b k s.vram ∧
      exec (.hwreg v) s = .next { reporting m.2 s with
        vram := m.1
        reg := { s.reg with
          trxdir := if s.xfer.pixels + k = s.xfer.total then s.reg.trxdir ||| 0x3#64
            else s.reg.trxdir }
        xfer := { s.xfer with
          active := !(s.xfer.pixels + k == s.xfer.total)
          pixels := s.xfer.pixels + k
          addr := s.xfer.addr + k * s.xfer.bitDepth
          streamBits := if s.xfer.pixels + k = s.xfer.total then 0
            else b / 2 ^ (k * s.xfer.bitDepth)
          streamN := if s.xfer.pixels + k = s.xfer.total then 0
            else s.xfer.streamN + 64 - k * s.xfer.bitDepth } }

/-- `read_HWREG` with an active local-to-host transfer fetches pixels in row-major order until the
stream holds a word or the rectangle ends, and gives the low 64 bits, zero-padded at the end; the
read that returns the last pixel bit ends the transfer (44_transfer_engine.md R391, R394, R395,
R390, R397). -/
def Obligations.HwregReadGivesPixels : Prop :=
  ∀ s : State,
    s.xfer.active = true → s.xfer.dir = .localToHost → 0 < s.xfer.bitDepth →
    s.xfer.streamBits < 2 ^ s.xfer.streamN → s.xfer.pixels ≤ s.xfer.total →
    ∃ k, k = fetchedPixels s.xfer ∧
    ∃ b, b = sentStream s.cfg s.xfer k s.vram ∧
    ∃ n, n = s.xfer.streamN + k * s.xfer.bitDepth ∧
    ∃ r, r = reporting (readErrors s.cfg s.xfer k) s ∧
      exec .hostReadHwreg s = .next { r with
        out := { r.out with result := .word64 (BitVec.ofNat 64 b) }
        reg := { s.reg with
          trxdir := if s.xfer.pixels + k = s.xfer.total ∧ n ≤ 64 then s.reg.trxdir ||| 0x3#64
            else s.reg.trxdir }
        xfer := { s.xfer with
          active := !(s.xfer.pixels + k == s.xfer.total && decide (n ≤ 64))
          pixels := s.xfer.pixels + k
          addr := s.xfer.addr + k * s.xfer.bitDepth
          streamBits := b / 2 ^ 64
          streamN := n - 64 } }

/-- An HWREG write with no active host-to-local transfer, and a read with no active local-to-host
one, are reported and change no state; the read returns 0 (44_transfer_engine.md R396). -/
def Obligations.HwregWithoutTransferIsReported : Prop :=
  ∀ (v : Word64) (s : State),
    (¬ (s.xfer.active = true ∧ s.xfer.dir = .hostToLocal) →
      exec (.hwreg v) s = .next (reporting [.hwregInactive .write] s)) ∧
    (¬ (s.xfer.active = true ∧ s.xfer.dir = .localToHost) →
      ∃ r, r = reporting [.hwregInactive .read] s ∧
        exec .hostReadHwreg s = .next { r with out := { r.out with result := .word64 0#64 } })

/-- A transfer takes exactly `ceil(RRW x RRH x bpp / 64)` HWREG writes, or gives exactly that many
reads: it is active before the last and ended after it, and one access more is reported
(70_reset_and_hazards.md R498). -/
def Obligations.TransferTakesItsWords : Prop :=
  (∀ (vs : List Word64) (s : State), XferInv s.reg s.xfer → s.xfer.active = true →
    s.xfer.dir = .hostToLocal → s.xfer.pixels = 0 → s.xfer.streamN = 0 →
    ∃ t, runAll (vs.map Instr.hwreg) s = .next t ∧
      (vs.length < hwregWords s.xfer → t.xfer.active = true) ∧
      (vs.length = hwregWords s.xfer → t.xfer.active = false ∧ t.xfer.pixels = t.xfer.total ∧
        ∀ v, exec (.hwreg v) t = .next (reporting [.hwregInactive .write] t))) ∧
  (∀ (n : Nat) (s : State), XferInv s.reg s.xfer → s.xfer.active = true →
    s.xfer.dir = .localToHost → s.xfer.pixels = 0 → s.xfer.streamN = 0 →
    ∃ t, runAll (List.replicate n Instr.hostReadHwreg) s = .next t ∧
      (n < hwregWords s.xfer → t.xfer.active = true) ∧
      (n = hwregWords s.xfer → t.xfer.active = false ∧ t.xfer.pixels = t.xfer.total ∧
        ∃ u, exec .hostReadHwreg t = .next u ∧
          u.out.report = t.out.report ++ [.hwregInactive .read]))

/-- A later write to BITBLTBUF, TRXPOS or TRXREG is stored and changes nothing about the transfer:
the HWREG accesses after it do what they would have done (44_transfer_engine.md R385). -/
def Obligations.LatchedRegistersAreIndependent : Prop :=
  ∀ (buf pos reg v : Word64) (s : State),
    (∃ t, exec (.hwreg v) s = .next t ∧
      exec (.hwreg v) { s with reg := { s.reg with
          bitbltbuf := buf, trxpos := pos, trxreg := reg } } =
        .next { t with reg := { t.reg with bitbltbuf := buf, trxpos := pos, trxreg := reg } }) ∧
    (∃ t, exec .hostReadHwreg s = .next t ∧
      exec .hostReadHwreg { s with reg := { s.reg with
          bitbltbuf := buf, trxpos := pos, trxreg := reg } } =
        .next { t with reg := { t.reg with bitbltbuf := buf, trxpos := pos, trxreg := reg } })

/-- Every byte outside the words of the pixels that an HWREG write counts, or of the pixels that a
local copy counts, is as before; a TRXDIR write with any other XDIR copies nothing and leaves every
byte as before (20_memory.md R116, 44_transfer_engine.md R383, R384, R387, R389). -/
def Obligations.TransfersKeepOtherBytes : Prop :=
  (∀ (v : Word64) (s t : State), exec (.hwreg v) s = .next t →
    ∀ a, (∀ k l, s.xfer.pixels ≤ k → k < t.xfer.pixels → destAt s.cfg s.xfer 0#2 k = .ok l →
        a / 4 ≠ l.word) →
      readByte t.vram a = readByte s.vram a) ∧
  (∀ (v : Word64) (s t : State), exec (.trxdir v) s = .next t →
    (v.extractLsb' 0 2 = 2#2 →
      ∀ a, (∀ k l, k < t.xfer.pixels →
          destAt t.cfg t.xfer (t.xfer.pos.extractLsb' 59 2) k = .ok l → a / 4 ≠ l.word) →
        readByte t.vram a = readByte s.vram a) ∧
    (v.extractLsb' 0 2 ≠ 2#2 → ∀ a, readByte t.vram a = readByte s.vram a))

/-! ## Privileged registers and the other host calls -/

/-- A privileged register with storage stores the bits written and reads them back: `write64` all 64
bits, `write32` one half with the other kept; nothing else changes (45_privileged_registers.md R431,
R433, R434). -/
def Obligations.PrivilegedRegistersStore : Prop :=
  ∀ (r : PrivReg) (old : Word64) (s : State), privStored r s.priv = some old →
    (∀ v : Word64, ∃ p, exec (r.instr (.write64 v)) s = .next { s with priv := p } ∧
      privStored r p = some v ∧ onlyStored r s.priv p) ∧
    (∀ v : Word32, ∃ p, exec (r.instr (.write32 .low v)) s = .next { s with priv := p } ∧
      privStored r p = some (old.extractLsb' 32 32 ++ v) ∧ onlyStored r s.priv p) ∧
    (∀ v : Word32, ∃ p, exec (r.instr (.write32 .high v)) s = .next { s with priv := p } ∧
      privStored r p = some (v ++ old.extractLsb' 0 32) ∧ onlyStored r s.priv p) ∧
    (∀ part : Part, exec (r.instr (.read32 part)) s =
      .next { s with out := { s.out with result := .word32 (half part old) } })

/-- A CSR write clears the event flags whose bits are written 1, keeps the others, ignores every
other bit but RESET, which performs `reset()` last and keeps the report; a write of the high half
changes nothing (45_privileged_registers.md R450, 70_reset_and_hazards.md R492). That CSR.RESET keeps
the pending calls, the call's other outputs and the mark of the run is the model's choice, log
entries 1, 4 and 5. -/
def Obligations.CsrWriteAcknowledges : Prop :=
  ∀ (v : Word64) (w : Word32) (s : State), v.extractLsb' 0 32 = w →
    (w.getLsbD 9 = false →
      ∃ t, t = { s with priv := { s.priv with
          csrSignal := s.priv.csrSignal && !w.getLsbD 0
          csrFinish := s.priv.csrFinish && !w.getLsbD 1
          csrHsint := s.priv.csrHsint && !w.getLsbD 2
          csrVsint := s.priv.csrVsint && !w.getLsbD 3
          csrEdwint := s.priv.csrEdwint && !w.getLsbD 4 } } ∧
        exec (.privCsr (.write64 v)) s = .next t ∧
        exec (.privCsr (.write32 .low w)) s = .next t) ∧
    (w.getLsbD 9 = true →
      exec (.privCsr (.write64 v)) s = .next (resetState s) ∧
      exec (.privCsr (.write32 .low w)) s = .next (resetState s)) ∧
    (∀ u : Word32, exec (.privCsr (.write32 .high u)) s = .next s)

/-- CSR reads as its flags, FIFO = 0b01, REV and ID; its high half reads 0
(45_privileged_registers.md R451). -/
def Obligations.CsrReadIsComposed : Prop :=
  ∀ s : State,
    exec (.privCsr (.read32 .low)) s =
      .next { s with out := { s.out with result := .word32 (csrWord s.cfg s.priv) } } ∧
    exec (.privCsr (.read32 .high)) s =
      .next { s with out := { s.out with result := .word32 0#32 } }

/-- An access without a mapping is reported and changes no state; a `read32` has no value
(45_privileged_registers.md R431). -/
def Obligations.UnmappedAccessIsReported : Prop :=
  ∀ (addr : Word32) (s : State),
    exec (.privUnmapped .w64 addr) s = .next (reporting [.unknownAddr .w64 addr] s) ∧
    exec (.privUnmapped .w32 addr) s = .next (reporting [.unknownAddr .w32 addr] s) ∧
    ∃ r, r = reporting [.unknownAddr .r32 addr] s ∧
      exec (.privUnmapped .r32 addr) s =
        .next { r with out := { r.out with result := .noValue } }

/-- `write64` below 0x100 is a general register write, which leaves the decoder as it is; every
other access runs the row its address decodes to, and `write32` and `read32` have no general
registers (45_privileged_registers.md R431 to R434, 40_gif_decoder.md R219). -/
def Obligations.HostAccessesRunTheirRow : Prop :=
  ∀ (nb : NloopBits) (addr : Word32) (s : State),
    (∀ v : Word64, addr.toNat ≤ 0xFF →
      ∃ t, exec (decode nb (.reg .host (addr.extractLsb' 0 8) v)) s = .next t ∧
        exec (.hostWrite64 addr v) s = .next t ∧ t.dec = s.dec) ∧
    (∀ v : Word64, 0xFF < addr.toNat →
      ∃ t, exec (decode nb (.priv .w64 addr v)) s = .next t ∧
        exec (.hostWrite64 addr v) s = .next t) ∧
    (∀ v : Word32, ∃ t, exec (decode nb (.priv .w32 addr (v.setWidth 64))) s = .next t ∧
      exec (.hostWrite32 addr v) s = .next t) ∧
    (∃ t, exec (decode nb (.priv .r32 addr 0#64)) s = .next t ∧
      exec (.hostRead32 addr) s = .next t) ∧
    (addr.toNat ≤ 0xFF →
      decode nb (.priv .w32 addr 0#64) = .privUnmapped .w32 addr ∧
      decode nb (.priv .r32 addr 0#64) = .privUnmapped .r32 addr)

/-- `video_event` sets HSINT, or VSINT with FIELD inverted, and nothing else
(45_privileged_registers.md R455). -/
def Obligations.VideoEventsSetTheirFlags : Prop :=
  ∀ s : State,
    exec (.hostVideoEvent .hblank) s = .next { s with priv := { s.priv with csrHsint := true } } ∧
    exec (.hostVideoEvent .vblankStart) s = .next { s with priv := { s.priv with
      csrVsint := true, csrField := !s.priv.csrField } }

/-- No instruction sets NFIELD or EDWINT (45_privileged_registers.md R455, 60_exceptions.md
R471). -/
def Obligations.NothingSetsNfieldOrEdwint : Prop :=
  ∀ (i : Instr) (s t : State), exec i s = .next t →
    (t.priv.csrNfield = true → s.priv.csrNfield = true) ∧
    (t.priv.csrEdwint = true → s.priv.csrEdwint = true)

/-- The two resolution accessors give the size of the displayed circuit and that size divided by the
magnifications, and change nothing (45_privileged_registers.md R456). -/
def Obligations.ResolutionsAreOfTheDisplayedCircuit : Prop :=
  ∀ s : State,
    exec .hostGetDisplayResolution s = .next { s with
      out := { s.out with result := .size (displayW s.priv) (displayH s.priv) } } ∧
    exec .hostGetInternalResolution s = .next { s with
      out := { s.out with result := .size (internalW s.priv) (internalH s.priv) } }

/-- `get_framebuffer` gives the internal resolution, the PSM and the raw pixel of every place of the
displayed buffer, reports one error for each pixel that fails a check, and changes no state
(45_privileged_registers.md R457, 60_exceptions.md R469). The order of the pixels and of their
errors, and that all of them are read in the call, are the model's, log entry 8. -/
def Obligations.FramebufferIsTheDisplayedPixels : Prop :=
  ∀ s : State, ∃ pixels : List Word32,
    pixels.length = internalW s.priv * internalH s.priv ∧
    (∀ x y, x < internalW s.priv → y < internalH s.priv →
      pixels[y * internalW s.priv + x]? = some (pixelAt s.vram (frameAt s x y))) ∧
    ∃ r, r = reporting (frameErrors s) s ∧
      exec .hostGetFramebuffer s = .next { r with out := { r.out with
        result := .frame (internalW s.priv) (internalH s.priv)
          ((shownBuffer s.priv).extractLsb' 15 5) pixels } }

/-- The interrupt level is up exactly when an event flag is set and its IMR bit is 0; after reset it
is down (60_exceptions.md R470). -/
def Obligations.InterruptLevel : Prop :=
  (∀ s : State, irq s = true ↔
    (s.priv.csrSignal = true ∧ s.priv.imr.getLsbD 8 = false) ∨
    (s.priv.csrFinish = true ∧ s.priv.imr.getLsbD 9 = false) ∨
    (s.priv.csrHsint = true ∧ s.priv.imr.getLsbD 10 = false) ∨
    (s.priv.csrVsint = true ∧ s.priv.imr.getLsbD 11 = false) ∨
    (s.priv.csrEdwint = true ∧ s.priv.imr.getLsbD 12 = false)) ∧
  irq State.reset = false
end

