-- ==== Sys2Proof/Laws/Memory.lean ====
section
/-! SUPPORT. Local memory: every write keeps the one form, a read after a write, and where a list of
word writes can reach (20_memory.md R101, R120). -/

namespace Sys2Proof.Machine

/-! ### Bytes -/

/-- What a byte write can list: the byte written, when it is not 0, and what was listed before. -/
theorem mem_writeByte {m : Memory} {a : Nat} {b : Byte} {c : Host.Cell}
    (h : c ∈ writeByte m a b) : (c = (a, b) ∧ b ≠ 0#8) ∨ c ∈ m := by
  induction m with
  | nil =>
    unfold writeByte at h
    split at h
    · exact absurd h (List.not_mem_nil)
    · exact .inl ⟨List.mem_singleton.mp h, ‹_›⟩
  | cons d rest ih =>
    unfold writeByte at h
    split at h
    · split at h
      · exact .inr h
      · rcases List.mem_cons.mp h with rfl | h
        · exact .inl ⟨rfl, ‹_›⟩
        · exact .inr h
    · split at h
      · split at h
        · exact .inr (List.mem_cons_of_mem _ h)
        · rcases List.mem_cons.mp h with rfl | h
          · exact .inl ⟨rfl, ‹_›⟩
          · exact .inr (List.mem_cons_of_mem _ h)
      · rcases List.mem_cons.mp h with rfl | h
        · exact .inr List.mem_cons_self
        · exact (ih h).imp_right (List.mem_cons_of_mem _)

/-- Memory with nothing listed has the one form. -/
theorem Memory.wf_nil : Memory.wf [] := ⟨List.Pairwise.nil, by simp⟩

/-- The rest of a memory of the one form has it, above the first address. -/
theorem Memory.wf_cons {c : Host.Cell} {m : Memory} :
    Memory.wf (c :: m) ↔ (∀ d ∈ m, c.1 < d.1) ∧ c.2 ≠ 0#8 ∧ Memory.wf m := by
  simp only [Memory.wf, List.pairwise_cons, List.forall_mem_cons]
  tauto

/-- A byte write keeps the one form. -/
theorem writeByte_wf {m : Memory} (a : Nat) (b : Byte) (h : m.wf) : (writeByte m a b).wf := by
  induction m with
  | nil =>
    unfold writeByte
    split
    · exact h
    · exact Memory.wf_cons.mpr ⟨by simp, ‹_›, h⟩
  | cons d rest ih =>
    obtain ⟨hlt, hne, hrest⟩ := Memory.wf_cons.mp h
    unfold writeByte
    split
    · split
      · exact h
      · refine Memory.wf_cons.mpr ⟨?_, ‹_›, h⟩
        intro e he
        rcases List.mem_cons.mp he with rfl | he
        · assumption
        · exact lt_trans ‹_› (hlt e he)
    · split
      · subst a
        split
        · exact hrest
        · exact Memory.wf_cons.mpr ⟨hlt, ‹_›, hrest⟩
      · refine Memory.wf_cons.mpr ⟨?_, hne, ih hrest⟩
        intro e he
        rcases mem_writeByte he with ⟨rfl, _⟩ | he
        · show d.1 < a; omega
        · exact hlt e he

/-- A byte below every listed address is 0. -/
theorem readByte_of_lt {m : Memory} {a : Nat} (h : ∀ c ∈ m, a < c.1) : readByte m a = 0#8 := by
  induction m with
  | nil => rfl
  | cons d rest ih =>
    unfold readByte
    have : d.1 ≠ a := by have := h d List.mem_cons_self; omega
    rw [if_neg this]
    exact ih fun c hc => h c (List.mem_cons_of_mem _ hc)

/-- A byte reads as the byte written to it. -/
theorem readByte_writeByte_same {m : Memory} (a : Nat) (b : Byte) (h : m.wf) :
    readByte (writeByte m a b) a = b := by
  induction m with
  | nil =>
    unfold writeByte
    split
    · simp [readByte, *]
    · simp [readByte]
  | cons d rest ih =>
    obtain ⟨hlt, hne, hrest⟩ := Memory.wf_cons.mp h
    unfold writeByte
    split
    · split
      · rw [readByte_of_lt (m := d :: rest)]
        · exact (‹b = 0#8›).symm
        · intro c hc
          rcases List.mem_cons.mp hc with rfl | hc
          · assumption
          · exact lt_trans ‹_› (hlt c hc)
      · simp [readByte]
    · split
      · split
        · subst a; rw [readByte_of_lt hlt]; exact (‹b = 0#8›).symm
        · simp [readByte]
      · rw [readByte, if_neg ‹_›]; exact ih hrest

/-- A byte write leaves every other byte. -/
theorem readByte_writeByte_other {m : Memory} {a a' : Nat} (b : Byte) (h : a' ≠ a) :
    readByte (writeByte m a b) a' = readByte m a' := by
  have h' : ¬ a = a' := fun e => h e.symm
  induction m with
  | nil => unfold writeByte; split <;> simp [readByte, h']
  | cons d rest ih =>
    unfold writeByte
    split
    · split
      · rfl
      · simp [readByte, h']
    · split
      · subst a
        split <;> simp [readByte, h']
      · simp only [readByte, ih]

/-! ### Words -/

/-- A word write keeps the one form. -/
theorem writeWord_wf {m : Memory} (w : Nat) (v : Word32) (h : m.wf) : (writeWord m w v).wf :=
  writeByte_wf _ _ (writeByte_wf _ _ (writeByte_wf _ _ (writeByte_wf _ _ h)))

/-- A word write leaves every byte outside the word. -/
theorem readByte_writeWord_other {m : Memory} {w a : Nat} (v : Word32) (h : a / 4 ≠ w) :
    readByte (writeWord m w v) a = readByte m a := by
  unfold writeWord
  rw [readByte_writeByte_other _ (by omega), readByte_writeByte_other _ (by omega),
    readByte_writeByte_other _ (by omega), readByte_writeByte_other _ (by omega)]

/-- A word write leaves every other word. -/
theorem readWord_writeWord_other {m : Memory} {w w' : Nat} (v : Word32) (h : w' ≠ w) :
    readWord (writeWord m w v) w' = readWord m w' := by
  unfold readWord
  rw [readByte_writeWord_other _ (by omega), readByte_writeWord_other _ (by omega),
    readByte_writeWord_other _ (by omega), readByte_writeWord_other _ (by omega)]

/-- A word is the concatenation of its bytes. -/
theorem word_of_bytes (v : Word32) :
    (v.extractLsb' 24 8 ++ v.extractLsb' 16 8 ++ v.extractLsb' 8 8 ++ v.extractLsb' 0 8 :
      BitVec 32) = v := by
  apply BitVec.eq_of_getLsbD_eq
  intro i hi
  simp only [BitVec.getLsbD_append, BitVec.getLsbD_extractLsb']
  by_cases h0 : i < 8
  · simp [h0]
  · by_cases h1 : i < 16
    · have e : 8 + (i - 8) = i := by omega
      simp [h0, show i - 8 < 8 by omega, e]
    · by_cases h2 : i < 24
      · have e : 16 + (i - 8 - 8) = i := by omega
        simp only [h0, show ¬ i - 8 < 8 by omega, show i - 8 - 8 < 8 by omega, e, decide_true,
          Bool.true_and, if_true, if_false]
      · have e : 24 + (i - 8 - 8 - 8) = i := by omega
        simp only [h0, show ¬ i - 8 < 8 by omega, show ¬ i - 8 - 8 < 8 by omega,
          show i - 8 - 8 - 8 < 8 by omega, e, decide_true, Bool.true_and, if_false]

/-- A word reads as the word written to it. -/
theorem readWord_writeWord_same {m : Memory} (w : Nat) (v : Word32) (h : m.wf) :
    readWord (writeWord m w v) w = v := by
  have h0 := writeByte_wf (4 * w) (v.extractLsb' 0 8) h
  have h1 := writeByte_wf (4 * w + 1) (v.extractLsb' 8 8) h0
  have h2 := writeByte_wf (4 * w + 2) (v.extractLsb' 16 8) h1
  unfold readWord writeWord
  dsimp only
  rw [readByte_writeByte_same _ _ h2]
  rw [readByte_writeByte_other (a := 4 * w + 3) _ (by omega), readByte_writeByte_same _ _ h1]
  rw [readByte_writeByte_other (a := 4 * w + 3) _ (by omega),
    readByte_writeByte_other (a := 4 * w + 2) _ (by omega), readByte_writeByte_same _ _ h0]
  rw [readByte_writeByte_other (a := 4 * w + 3) _ (by omega),
    readByte_writeByte_other (a := 4 * w + 2) _ (by omega),
    readByte_writeByte_other (a := 4 * w + 1) _ (by omega), readByte_writeByte_same _ _ h]
  exact word_of_bytes v

/-! ### Lists of word writes -/

/-- Word writes keep the one form. -/
theorem writeWords_wf (cfg : Params) {m : Memory} (ws : List (Nat × Word32)) (h : m.wf) :
    (writeWords cfg m ws).wf := by
  induction ws generalizing m with
  | nil => exact h
  | cons p rest ih =>
    unfold writeWords
    split
    · exact ih (writeWord_wf _ _ h)
    · exact ih h

/-- A memory listing no byte at or above `n`. -/
def Memory.below (n : Nat) (m : Memory) : Prop := ∀ c ∈ m, c.1 < n

/-- A byte write inside the buffer lists nothing outside it. -/
theorem writeByte_below {n a : Nat} {m : Memory} (b : Byte) (h : m.below n) (ha : a < n) :
    (writeByte m a b).below n := by
  intro c hc
  rcases mem_writeByte hc with ⟨rfl, _⟩ | hc
  · exact ha
  · exact h c hc

/-- A word write inside the buffer lists nothing outside it. -/
theorem writeWord_below {n w : Nat} {m : Memory} (v : Word32) (h : m.below (4 * n)) (hw : w < n) :
    (writeWord m w v).below (4 * n) :=
  writeByte_below _ (writeByte_below _ (writeByte_below _ (writeByte_below _ h (by omega))
    (by omega)) (by omega)) (by omega)

/-- Word writes list nothing outside the buffer: those out of bounds are not performed. -/
theorem writeWords_below (cfg : Params) {m : Memory} (ws : List (Nat × Word32))
    (h : m.below (4 * cfg.vramWords)) : (writeWords cfg m ws).below (4 * cfg.vramWords) := by
  induction ws generalizing m with
  | nil => exact h
  | cons p rest ih =>
    unfold writeWords
    split
    · exact ih (writeWord_below _ h (of_decide_eq_true ‹_›))
    · exact ih h

/-! ### Reset memory -/

/-- Memory right after reset has the one form. -/
theorem reset_vram_wf : State.reset.vram.wf := Memory.wf_nil

end Sys2Proof.Machine
end

