-- ==== Sys2Proof/Laws/State.lean ====
section
/-! SUPPORT. One lemma for each field and each update of the state, so that no later proof unfolds
an update. -/

namespace Sys2Proof.Machine

/-! ### setDec -/

@[simp] theorem State.setDec_cfg (s : State) (d : Decoder) : (s.setDec d).cfg = s.cfg := rfl
@[simp] theorem State.setDec_dec (s : State) (d : Decoder) : (s.setDec d).dec = d := rfl
@[simp] theorem State.setDec_reg (s : State) (d : Decoder) : (s.setDec d).reg = s.reg := rfl
@[simp] theorem State.setDec_vq (s : State) (d : Decoder) : (s.setDec d).vq = s.vq := rfl
@[simp] theorem State.setDec_xfer (s : State) (d : Decoder) : (s.setDec d).xfer = s.xfer := rfl
@[simp] theorem State.setDec_priv (s : State) (d : Decoder) : (s.setDec d).priv = s.priv := rfl
@[simp] theorem State.setDec_vram (s : State) (d : Decoder) : (s.setDec d).vram = s.vram := rfl
@[simp] theorem State.setDec_inbox (s : State) (d : Decoder) : (s.setDec d).inbox = s.inbox := rfl
@[simp] theorem State.setDec_out (s : State) (d : Decoder) : (s.setDec d).out = s.out := rfl
@[simp] theorem State.setDec_unmodelled (s : State) (d : Decoder) : (s.setDec d).unmodelled = s.unmodelled := rfl

/-! ### setReg -/

@[simp] theorem State.setReg_cfg (s : State) (r : RegFile) : (s.setReg r).cfg = s.cfg := rfl
@[simp] theorem State.setReg_dec (s : State) (r : RegFile) : (s.setReg r).dec = s.dec := rfl
@[simp] theorem State.setReg_reg (s : State) (r : RegFile) : (s.setReg r).reg = r := rfl
@[simp] theorem State.setReg_vq (s : State) (r : RegFile) : (s.setReg r).vq = s.vq := rfl
@[simp] theorem State.setReg_xfer (s : State) (r : RegFile) : (s.setReg r).xfer = s.xfer := rfl
@[simp] theorem State.setReg_priv (s : State) (r : RegFile) : (s.setReg r).priv = s.priv := rfl
@[simp] theorem State.setReg_vram (s : State) (r : RegFile) : (s.setReg r).vram = s.vram := rfl
@[simp] theorem State.setReg_inbox (s : State) (r : RegFile) : (s.setReg r).inbox = s.inbox := rfl
@[simp] theorem State.setReg_out (s : State) (r : RegFile) : (s.setReg r).out = s.out := rfl
@[simp] theorem State.setReg_unmodelled (s : State) (r : RegFile) : (s.setReg r).unmodelled = s.unmodelled := rfl

/-! ### setVq -/

@[simp] theorem State.setVq_cfg (s : State) (q : List Vertex) : (s.setVq q).cfg = s.cfg := rfl
@[simp] theorem State.setVq_dec (s : State) (q : List Vertex) : (s.setVq q).dec = s.dec := rfl
@[simp] theorem State.setVq_reg (s : State) (q : List Vertex) : (s.setVq q).reg = s.reg := rfl
@[simp] theorem State.setVq_vq (s : State) (q : List Vertex) : (s.setVq q).vq = q := rfl
@[simp] theorem State.setVq_xfer (s : State) (q : List Vertex) : (s.setVq q).xfer = s.xfer := rfl
@[simp] theorem State.setVq_priv (s : State) (q : List Vertex) : (s.setVq q).priv = s.priv := rfl
@[simp] theorem State.setVq_vram (s : State) (q : List Vertex) : (s.setVq q).vram = s.vram := rfl
@[simp] theorem State.setVq_inbox (s : State) (q : List Vertex) : (s.setVq q).inbox = s.inbox := rfl
@[simp] theorem State.setVq_out (s : State) (q : List Vertex) : (s.setVq q).out = s.out := rfl
@[simp] theorem State.setVq_unmodelled (s : State) (q : List Vertex) : (s.setVq q).unmodelled = s.unmodelled := rfl

/-! ### setXfer -/

@[simp] theorem State.setXfer_cfg (s : State) (x : Xfer) : (s.setXfer x).cfg = s.cfg := rfl
@[simp] theorem State.setXfer_dec (s : State) (x : Xfer) : (s.setXfer x).dec = s.dec := rfl
@[simp] theorem State.setXfer_reg (s : State) (x : Xfer) : (s.setXfer x).reg = s.reg := rfl
@[simp] theorem State.setXfer_vq (s : State) (x : Xfer) : (s.setXfer x).vq = s.vq := rfl
@[simp] theorem State.setXfer_xfer (s : State) (x : Xfer) : (s.setXfer x).xfer = x := rfl
@[simp] theorem State.setXfer_priv (s : State) (x : Xfer) : (s.setXfer x).priv = s.priv := rfl
@[simp] theorem State.setXfer_vram (s : State) (x : Xfer) : (s.setXfer x).vram = s.vram := rfl
@[simp] theorem State.setXfer_inbox (s : State) (x : Xfer) : (s.setXfer x).inbox = s.inbox := rfl
@[simp] theorem State.setXfer_out (s : State) (x : Xfer) : (s.setXfer x).out = s.out := rfl
@[simp] theorem State.setXfer_unmodelled (s : State) (x : Xfer) : (s.setXfer x).unmodelled = s.unmodelled := rfl

/-! ### setPriv -/

@[simp] theorem State.setPriv_cfg (s : State) (p : PrivRegs) : (s.setPriv p).cfg = s.cfg := rfl
@[simp] theorem State.setPriv_dec (s : State) (p : PrivRegs) : (s.setPriv p).dec = s.dec := rfl
@[simp] theorem State.setPriv_reg (s : State) (p : PrivRegs) : (s.setPriv p).reg = s.reg := rfl
@[simp] theorem State.setPriv_vq (s : State) (p : PrivRegs) : (s.setPriv p).vq = s.vq := rfl
@[simp] theorem State.setPriv_xfer (s : State) (p : PrivRegs) : (s.setPriv p).xfer = s.xfer := rfl
@[simp] theorem State.setPriv_priv (s : State) (p : PrivRegs) : (s.setPriv p).priv = p := rfl
@[simp] theorem State.setPriv_vram (s : State) (p : PrivRegs) : (s.setPriv p).vram = s.vram := rfl
@[simp] theorem State.setPriv_inbox (s : State) (p : PrivRegs) : (s.setPriv p).inbox = s.inbox := rfl
@[simp] theorem State.setPriv_out (s : State) (p : PrivRegs) : (s.setPriv p).out = s.out := rfl
@[simp] theorem State.setPriv_unmodelled (s : State) (p : PrivRegs) : (s.setPriv p).unmodelled = s.unmodelled := rfl

/-! ### setVram -/

@[simp] theorem State.setVram_cfg (s : State) (m : Memory) : (s.setVram m).cfg = s.cfg := rfl
@[simp] theorem State.setVram_dec (s : State) (m : Memory) : (s.setVram m).dec = s.dec := rfl
@[simp] theorem State.setVram_reg (s : State) (m : Memory) : (s.setVram m).reg = s.reg := rfl
@[simp] theorem State.setVram_vq (s : State) (m : Memory) : (s.setVram m).vq = s.vq := rfl
@[simp] theorem State.setVram_xfer (s : State) (m : Memory) : (s.setVram m).xfer = s.xfer := rfl
@[simp] theorem State.setVram_priv (s : State) (m : Memory) : (s.setVram m).priv = s.priv := rfl
@[simp] theorem State.setVram_vram (s : State) (m : Memory) : (s.setVram m).vram = m := rfl
@[simp] theorem State.setVram_inbox (s : State) (m : Memory) : (s.setVram m).inbox = s.inbox := rfl
@[simp] theorem State.setVram_out (s : State) (m : Memory) : (s.setVram m).out = s.out := rfl
@[simp] theorem State.setVram_unmodelled (s : State) (m : Memory) : (s.setVram m).unmodelled = s.unmodelled := rfl

/-! ### setInbox -/

@[simp] theorem State.setInbox_cfg (s : State) (cs : List Call) : (s.setInbox cs).cfg = s.cfg := rfl
@[simp] theorem State.setInbox_dec (s : State) (cs : List Call) : (s.setInbox cs).dec = s.dec := rfl
@[simp] theorem State.setInbox_reg (s : State) (cs : List Call) : (s.setInbox cs).reg = s.reg := rfl
@[simp] theorem State.setInbox_vq (s : State) (cs : List Call) : (s.setInbox cs).vq = s.vq := rfl
@[simp] theorem State.setInbox_xfer (s : State) (cs : List Call) : (s.setInbox cs).xfer = s.xfer := rfl
@[simp] theorem State.setInbox_priv (s : State) (cs : List Call) : (s.setInbox cs).priv = s.priv := rfl
@[simp] theorem State.setInbox_vram (s : State) (cs : List Call) : (s.setInbox cs).vram = s.vram := rfl
@[simp] theorem State.setInbox_inbox (s : State) (cs : List Call) : (s.setInbox cs).inbox = cs := rfl
@[simp] theorem State.setInbox_out (s : State) (cs : List Call) : (s.setInbox cs).out = s.out := rfl
@[simp] theorem State.setInbox_unmodelled (s : State) (cs : List Call) : (s.setInbox cs).unmodelled = s.unmodelled := rfl

/-! ### setOut -/

@[simp] theorem State.setOut_cfg (s : State) (o : CallOut) : (s.setOut o).cfg = s.cfg := rfl
@[simp] theorem State.setOut_dec (s : State) (o : CallOut) : (s.setOut o).dec = s.dec := rfl
@[simp] theorem State.setOut_reg (s : State) (o : CallOut) : (s.setOut o).reg = s.reg := rfl
@[simp] theorem State.setOut_vq (s : State) (o : CallOut) : (s.setOut o).vq = s.vq := rfl
@[simp] theorem State.setOut_xfer (s : State) (o : CallOut) : (s.setOut o).xfer = s.xfer := rfl
@[simp] theorem State.setOut_priv (s : State) (o : CallOut) : (s.setOut o).priv = s.priv := rfl
@[simp] theorem State.setOut_vram (s : State) (o : CallOut) : (s.setOut o).vram = s.vram := rfl
@[simp] theorem State.setOut_inbox (s : State) (o : CallOut) : (s.setOut o).inbox = s.inbox := rfl
@[simp] theorem State.setOut_out (s : State) (o : CallOut) : (s.setOut o).out = o := rfl
@[simp] theorem State.setOut_unmodelled (s : State) (o : CallOut) : (s.setOut o).unmodelled = s.unmodelled := rfl

/-! ### setUnmodelled -/

@[simp] theorem State.setUnmodelled_cfg (s : State) (b : Bool) : (s.setUnmodelled b).cfg = s.cfg := rfl
@[simp] theorem State.setUnmodelled_dec (s : State) (b : Bool) : (s.setUnmodelled b).dec = s.dec := rfl
@[simp] theorem State.setUnmodelled_reg (s : State) (b : Bool) : (s.setUnmodelled b).reg = s.reg := rfl
@[simp] theorem State.setUnmodelled_vq (s : State) (b : Bool) : (s.setUnmodelled b).vq = s.vq := rfl
@[simp] theorem State.setUnmodelled_xfer (s : State) (b : Bool) : (s.setUnmodelled b).xfer = s.xfer := rfl
@[simp] theorem State.setUnmodelled_priv (s : State) (b : Bool) : (s.setUnmodelled b).priv = s.priv := rfl
@[simp] theorem State.setUnmodelled_vram (s : State) (b : Bool) : (s.setUnmodelled b).vram = s.vram := rfl
@[simp] theorem State.setUnmodelled_inbox (s : State) (b : Bool) : (s.setUnmodelled b).inbox = s.inbox := rfl
@[simp] theorem State.setUnmodelled_out (s : State) (b : Bool) : (s.setUnmodelled b).out = s.out := rfl
@[simp] theorem State.setUnmodelled_unmodelled (s : State) (b : Bool) : (s.setUnmodelled b).unmodelled = b := rfl

/-! ### raise -/

@[simp] theorem raise_cfg (e : Err) (s : State) : (raise e s).cfg = s.cfg := rfl
@[simp] theorem raise_dec (e : Err) (s : State) : (raise e s).dec = s.dec := rfl
@[simp] theorem raise_reg (e : Err) (s : State) : (raise e s).reg = s.reg := rfl
@[simp] theorem raise_vq (e : Err) (s : State) : (raise e s).vq = s.vq := rfl
@[simp] theorem raise_xfer (e : Err) (s : State) : (raise e s).xfer = s.xfer := rfl
@[simp] theorem raise_priv (e : Err) (s : State) : (raise e s).priv = s.priv := rfl
@[simp] theorem raise_vram (e : Err) (s : State) : (raise e s).vram = s.vram := rfl
@[simp] theorem raise_inbox (e : Err) (s : State) : (raise e s).inbox = s.inbox := rfl
@[simp] theorem raise_out (e : Err) (s : State) : (raise e s).out = { s.out with report := s.out.report ++ [e] } := rfl
@[simp] theorem raise_unmodelled (e : Err) (s : State) : (raise e s).unmodelled = (s.unmodelled || isUnmodelled e) := rfl

/-! ### setResult -/

@[simp] theorem setResult_cfg (r : Result) (s : State) : (setResult r s).cfg = s.cfg := rfl
@[simp] theorem setResult_dec (r : Result) (s : State) : (setResult r s).dec = s.dec := rfl
@[simp] theorem setResult_reg (r : Result) (s : State) : (setResult r s).reg = s.reg := rfl
@[simp] theorem setResult_vq (r : Result) (s : State) : (setResult r s).vq = s.vq := rfl
@[simp] theorem setResult_xfer (r : Result) (s : State) : (setResult r s).xfer = s.xfer := rfl
@[simp] theorem setResult_priv (r : Result) (s : State) : (setResult r s).priv = s.priv := rfl
@[simp] theorem setResult_vram (r : Result) (s : State) : (setResult r s).vram = s.vram := rfl
@[simp] theorem setResult_inbox (r : Result) (s : State) : (setResult r s).inbox = s.inbox := rfl
@[simp] theorem setResult_out (r : Result) (s : State) : (setResult r s).out = { s.out with result := r } := rfl
@[simp] theorem setResult_unmodelled (r : Result) (s : State) : (setResult r s).unmodelled = s.unmodelled := rfl

/-! ### beginCall -/

@[simp] theorem beginCall_cfg (rest : List Call) (s : State) : (beginCall rest s).cfg = s.cfg := rfl
@[simp] theorem beginCall_dec (rest : List Call) (s : State) : (beginCall rest s).dec = s.dec := rfl
@[simp] theorem beginCall_reg (rest : List Call) (s : State) : (beginCall rest s).reg = s.reg := rfl
@[simp] theorem beginCall_vq (rest : List Call) (s : State) : (beginCall rest s).vq = s.vq := rfl
@[simp] theorem beginCall_xfer (rest : List Call) (s : State) : (beginCall rest s).xfer = s.xfer := rfl
@[simp] theorem beginCall_priv (rest : List Call) (s : State) : (beginCall rest s).priv = s.priv := rfl
@[simp] theorem beginCall_vram (rest : List Call) (s : State) : (beginCall rest s).vram = s.vram := rfl
@[simp] theorem beginCall_inbox (rest : List Call) (s : State) : (beginCall rest s).inbox = rest := rfl
@[simp] theorem beginCall_out (rest : List Call) (s : State) : (beginCall rest s).out = CallOut.empty := rfl
@[simp] theorem beginCall_unmodelled (rest : List Call) (s : State) : (beginCall rest s).unmodelled = s.unmodelled := rfl

/-! ### resetBlock -/

@[simp] theorem resetBlock_cfg (s : State) : (resetBlock s).cfg = s.cfg := rfl
@[simp] theorem resetBlock_dec (s : State) : (resetBlock s).dec = Decoder.reset := rfl
@[simp] theorem resetBlock_reg (s : State) : (resetBlock s).reg = RegFile.reset := rfl
@[simp] theorem resetBlock_vq (s : State) : (resetBlock s).vq = [] := rfl
@[simp] theorem resetBlock_xfer (s : State) : (resetBlock s).xfer = Xfer.reset := rfl
@[simp] theorem resetBlock_priv (s : State) : (resetBlock s).priv = PrivRegs.reset := rfl
@[simp] theorem resetBlock_vram (s : State) : (resetBlock s).vram = [] := rfl
@[simp] theorem resetBlock_inbox (s : State) : (resetBlock s).inbox = s.inbox := rfl
@[simp] theorem resetBlock_out (s : State) : (resetBlock s).out = s.out := rfl
@[simp] theorem resetBlock_unmodelled (s : State) : (resetBlock s).unmodelled = s.unmodelled := rfl

/-! ### emitDraw -/

@[simp] theorem emitDraw_cfg (t : PrimType) (s : State) :
    (emitDraw t s).cfg = s.cfg := rfl
@[simp] theorem emitDraw_dec (t : PrimType) (s : State) :
    (emitDraw t s).dec = s.dec := rfl
@[simp] theorem emitDraw_reg (t : PrimType) (s : State) :
    (emitDraw t s).reg = s.reg := rfl
@[simp] theorem emitDraw_vq (t : PrimType) (s : State) :
    (emitDraw t s).vq = s.vq := rfl
@[simp] theorem emitDraw_xfer (t : PrimType) (s : State) :
    (emitDraw t s).xfer = s.xfer := rfl
@[simp] theorem emitDraw_priv (t : PrimType) (s : State) :
    (emitDraw t s).priv = s.priv := rfl
@[simp] theorem emitDraw_vram (t : PrimType) (s : State) :
    (emitDraw t s).vram = writeWords s.cfg s.vram (Config.rasterize (drawEvent s.reg t s.vq) s.reg s.vram) := rfl
@[simp] theorem emitDraw_inbox (t : PrimType) (s : State) :
    (emitDraw t s).inbox = s.inbox := rfl
@[simp] theorem emitDraw_out (t : PrimType) (s : State) :
    (emitDraw t s).out = { s.out with draws := s.out.draws ++ [drawEvent s.reg t s.vq] } := rfl
@[simp] theorem emitDraw_unmodelled (t : PrimType) (s : State) :
    (emitDraw t s).unmodelled = s.unmodelled := rfl

/-! ### countPixel -/

@[simp] theorem countPixel_cfg (s : State) :
    (countPixel s).cfg = s.cfg := rfl
@[simp] theorem countPixel_dec (s : State) :
    (countPixel s).dec = s.dec := rfl
@[simp] theorem countPixel_reg (s : State) :
    (countPixel s).reg = s.reg := rfl
@[simp] theorem countPixel_vq (s : State) :
    (countPixel s).vq = s.vq := rfl
@[simp] theorem countPixel_xfer (s : State) :
    (countPixel s).xfer = { s.xfer with pixels := s.xfer.pixels + 1, addr := s.xfer.addr + s.xfer.bitDepth } := rfl
@[simp] theorem countPixel_priv (s : State) :
    (countPixel s).priv = s.priv := rfl
@[simp] theorem countPixel_vram (s : State) :
    (countPixel s).vram = s.vram := rfl
@[simp] theorem countPixel_inbox (s : State) :
    (countPixel s).inbox = s.inbox := rfl
@[simp] theorem countPixel_out (s : State) :
    (countPixel s).out = s.out := rfl
@[simp] theorem countPixel_unmodelled (s : State) :
    (countPixel s).unmodelled = s.unmodelled := rfl

/-! ### setDepth -/

@[simp] theorem setDepth_cfg (d : Nat) (s : State) :
    (setDepth d s).cfg = s.cfg := rfl
@[simp] theorem setDepth_dec (d : Nat) (s : State) :
    (setDepth d s).dec = s.dec := rfl
@[simp] theorem setDepth_reg (d : Nat) (s : State) :
    (setDepth d s).reg = s.reg := rfl
@[simp] theorem setDepth_vq (d : Nat) (s : State) :
    (setDepth d s).vq = s.vq := rfl
@[simp] theorem setDepth_xfer (d : Nat) (s : State) :
    (setDepth d s).xfer = { s.xfer with bitDepth := d } := rfl
@[simp] theorem setDepth_priv (d : Nat) (s : State) :
    (setDepth d s).priv = s.priv := rfl
@[simp] theorem setDepth_vram (d : Nat) (s : State) :
    (setDepth d s).vram = s.vram := rfl
@[simp] theorem setDepth_inbox (d : Nat) (s : State) :
    (setDepth d s).inbox = s.inbox := rfl
@[simp] theorem setDepth_out (d : Nat) (s : State) :
    (setDepth d s).out = s.out := rfl
@[simp] theorem setDepth_unmodelled (d : Nat) (s : State) :
    (setDepth d s).unmodelled = s.unmodelled := rfl

/-! ### pushWord -/

@[simp] theorem pushWord_cfg (v : Word64) (s : State) :
    (pushWord v s).cfg = s.cfg := rfl
@[simp] theorem pushWord_dec (v : Word64) (s : State) :
    (pushWord v s).dec = s.dec := rfl
@[simp] theorem pushWord_reg (v : Word64) (s : State) :
    (pushWord v s).reg = s.reg := rfl
@[simp] theorem pushWord_vq (v : Word64) (s : State) :
    (pushWord v s).vq = s.vq := rfl
@[simp] theorem pushWord_xfer (v : Word64) (s : State) :
    (pushWord v s).xfer = { s.xfer with streamBits := s.xfer.streamBits ||| (v.toNat <<< s.xfer.streamN), streamN := s.xfer.streamN + 64 } := rfl
@[simp] theorem pushWord_priv (v : Word64) (s : State) :
    (pushWord v s).priv = s.priv := rfl
@[simp] theorem pushWord_vram (v : Word64) (s : State) :
    (pushWord v s).vram = s.vram := rfl
@[simp] theorem pushWord_inbox (v : Word64) (s : State) :
    (pushWord v s).inbox = s.inbox := rfl
@[simp] theorem pushWord_out (v : Word64) (s : State) :
    (pushWord v s).out = s.out := rfl
@[simp] theorem pushWord_unmodelled (v : Word64) (s : State) :
    (pushWord v s).unmodelled = s.unmodelled := rfl

/-! ### latchXfer -/

@[simp] theorem latchXfer_cfg (dir : XferDir) (s : State) :
    (latchXfer dir s).cfg = s.cfg := rfl
@[simp] theorem latchXfer_dec (dir : XferDir) (s : State) :
    (latchXfer dir s).dec = s.dec := rfl
@[simp] theorem latchXfer_reg (dir : XferDir) (s : State) :
    (latchXfer dir s).reg = s.reg := rfl
@[simp] theorem latchXfer_vq (dir : XferDir) (s : State) :
    (latchXfer dir s).vq = s.vq := rfl
@[simp] theorem latchXfer_xfer (dir : XferDir) (s : State) :
    (latchXfer dir s).xfer = { s.xfer with dir := dir, buf := s.reg.bitbltbuf, pos := s.reg.trxpos, reg := s.reg.trxreg, pixels := 0, addr := 0, streamBits := 0, streamN := 0, total := (trxregRRW s.reg.trxreg).toNat * (trxregRRH s.reg.trxreg).toNat } := rfl
@[simp] theorem latchXfer_priv (dir : XferDir) (s : State) :
    (latchXfer dir s).priv = s.priv := rfl
@[simp] theorem latchXfer_vram (dir : XferDir) (s : State) :
    (latchXfer dir s).vram = s.vram := rfl
@[simp] theorem latchXfer_inbox (dir : XferDir) (s : State) :
    (latchXfer dir s).inbox = s.inbox := rfl
@[simp] theorem latchXfer_out (dir : XferDir) (s : State) :
    (latchXfer dir s).out = s.out := rfl
@[simp] theorem latchXfer_unmodelled (dir : XferDir) (s : State) :
    (latchXfer dir s).unmodelled = s.unmodelled := rfl

/-! ### deactivate -/

@[simp] theorem deactivate_cfg (s : State) :
    (deactivate s).cfg = s.cfg := rfl
@[simp] theorem deactivate_dec (s : State) :
    (deactivate s).dec = s.dec := rfl
@[simp] theorem deactivate_reg (s : State) :
    (deactivate s).reg = { s.reg with trxdir := (s.reg.trxdir &&& ~~~0x3#64) ||| 0x3#64 } := rfl
@[simp] theorem deactivate_vq (s : State) :
    (deactivate s).vq = s.vq := rfl
@[simp] theorem deactivate_xfer (s : State) :
    (deactivate s).xfer = { s.xfer with active := false } := rfl
@[simp] theorem deactivate_priv (s : State) :
    (deactivate s).priv = s.priv := rfl
@[simp] theorem deactivate_vram (s : State) :
    (deactivate s).vram = s.vram := rfl
@[simp] theorem deactivate_inbox (s : State) :
    (deactivate s).inbox = s.inbox := rfl
@[simp] theorem deactivate_out (s : State) :
    (deactivate s).out = s.out := rfl
@[simp] theorem deactivate_unmodelled (s : State) :
    (deactivate s).unmodelled = s.unmodelled := rfl

end Sys2Proof.Machine
end

