-- ==== Sys2Proof/Laws/Ops.lean ====
section
/-! SUPPORT. What the shared operations over pixels can do: the checks of an access, a pixel read,
a pixel write (20_memory.md R104, R114 to R116, R120), and the vertex commit
(43_primitive_assembler.md R352). -/

namespace Sys2Proof.Machine

/-! ### The checks of a pixel access -/

/-- An access that passes its checks has a mode, lies at that mode's location, and is in bounds. -/
theorem locate_ok {cfg : Params} {code : BitVec 6} {bp bw x y : Nat} {l : PixelLoc}
    (h : locate cfg code bp bw x y = .ok l) :
    ∃ p, psmOf code = some p ∧ l = pixelLoc p bp bw x y ∧ l.word < cfg.vramWords := by
  unfold locate at h
  split at h
  · cases h
  · split at h
    · cases h
    · split at h
      · cases h
        exact ⟨_, ‹_›, rfl, of_decide_eq_true ‹_›⟩
      · cases h

/-! ### Pixel read -/

/-- A pixel read either reports its first failed check and gives 0, or gives the pixel's bits and
changes nothing. -/
theorem pixRead_cases (code : BitVec 6) (bp bw x y : Nat) (s : State) :
    (∃ e, locate s.cfg code bp bw x y = .error e ∧
      pixRead code bp bw x y s = ((0#32, false), raise e s)) ∨
    (∃ l, locate s.cfg code bp bw x y = .ok l ∧
      pixRead code bp bw x y s = ((getPixel l (readWord s.vram l.word), true), s)) := by
  unfold pixRead
  split
  · exact .inl ⟨_, ‹_›, rfl⟩
  · exact .inr ⟨_, ‹_›, rfl⟩

@[simp] theorem pixRead_cfg (code : BitVec 6) (bp bw x y : Nat) (s : State) :
    (pixRead code bp bw x y s).2.cfg = s.cfg := by
  unfold pixRead; split <;> rfl

@[simp] theorem pixRead_dec (code : BitVec 6) (bp bw x y : Nat) (s : State) :
    (pixRead code bp bw x y s).2.dec = s.dec := by
  unfold pixRead; split <;> rfl

@[simp] theorem pixRead_reg (code : BitVec 6) (bp bw x y : Nat) (s : State) :
    (pixRead code bp bw x y s).2.reg = s.reg := by
  unfold pixRead; split <;> rfl

@[simp] theorem pixRead_vq (code : BitVec 6) (bp bw x y : Nat) (s : State) :
    (pixRead code bp bw x y s).2.vq = s.vq := by
  unfold pixRead; split <;> rfl

@[simp] theorem pixRead_xfer (code : BitVec 6) (bp bw x y : Nat) (s : State) :
    (pixRead code bp bw x y s).2.xfer = s.xfer := by
  unfold pixRead; split <;> rfl

@[simp] theorem pixRead_priv (code : BitVec 6) (bp bw x y : Nat) (s : State) :
    (pixRead code bp bw x y s).2.priv = s.priv := by
  unfold pixRead; split <;> rfl

@[simp] theorem pixRead_inbox (code : BitVec 6) (bp bw x y : Nat) (s : State) :
    (pixRead code bp bw x y s).2.inbox = s.inbox := by
  unfold pixRead; split <;> rfl

@[simp] theorem pixRead_vram (code : BitVec 6) (bp bw x y : Nat) (s : State) :
    (pixRead code bp bw x y s).2.vram = s.vram := by
  unfold pixRead; split <;> rfl

/-! ### Pixel write -/

/-- A pixel write either reports its first failed check, or replaces the pixel's bits of one word in
bounds. -/
theorem pixWrite_cases (code : BitVec 6) (bp bw x y : Nat) (p : Word32) (s : State) :
    (∃ e, locate s.cfg code bp bw x y = .error e ∧ pixWrite code bp bw x y p s = raise e s) ∨
    (∃ l, locate s.cfg code bp bw x y = .ok l ∧ l.word < s.cfg.vramWords ∧
      pixWrite code bp bw x y p s =
        s.setVram (writeWord s.vram l.word (putPixel l (readWord s.vram l.word) p))) := by
  unfold pixWrite
  split
  · exact .inl ⟨_, ‹_›, rfl⟩
  · obtain ⟨_, _, _, hb⟩ := locate_ok ‹_›
    exact .inr ⟨_, ‹_›, hb, rfl⟩

@[simp] theorem pixWrite_cfg (code : BitVec 6) (bp bw x y : Nat) (p : Word32) (s : State) :
    (pixWrite code bp bw x y p s).cfg = s.cfg := by
  unfold pixWrite; split <;> rfl

@[simp] theorem pixWrite_dec (code : BitVec 6) (bp bw x y : Nat) (p : Word32) (s : State) :
    (pixWrite code bp bw x y p s).dec = s.dec := by
  unfold pixWrite; split <;> rfl

@[simp] theorem pixWrite_reg (code : BitVec 6) (bp bw x y : Nat) (p : Word32) (s : State) :
    (pixWrite code bp bw x y p s).reg = s.reg := by
  unfold pixWrite; split <;> rfl

@[simp] theorem pixWrite_vq (code : BitVec 6) (bp bw x y : Nat) (p : Word32) (s : State) :
    (pixWrite code bp bw x y p s).vq = s.vq := by
  unfold pixWrite; split <;> rfl

@[simp] theorem pixWrite_xfer (code : BitVec 6) (bp bw x y : Nat) (p : Word32) (s : State) :
    (pixWrite code bp bw x y p s).xfer = s.xfer := by
  unfold pixWrite; split <;> rfl

@[simp] theorem pixWrite_priv (code : BitVec 6) (bp bw x y : Nat) (p : Word32) (s : State) :
    (pixWrite code bp bw x y p s).priv = s.priv := by
  unfold pixWrite; split <;> rfl

@[simp] theorem pixWrite_inbox (code : BitVec 6) (bp bw x y : Nat) (p : Word32) (s : State) :
    (pixWrite code bp bw x y p s).inbox = s.inbox := by
  unfold pixWrite; split <;> rfl

/-- A pixel write keeps the one form of memory. -/
theorem pixWrite_wf (code : BitVec 6) (bp bw x y : Nat) (p : Word32) {s : State}
    (h : s.vram.wf) : (pixWrite code bp bw x y p s).vram.wf := by
  rcases pixWrite_cases code bp bw x y p s with ⟨e, _, he⟩ | ⟨l, _, _, he⟩
  · rw [he]; exact h
  · rw [he]; exact writeWord_wf _ _ h

/-- A pixel write lists nothing outside the buffer. -/
theorem pixWrite_below (code : BitVec 6) (bp bw x y : Nat) (p : Word32) {s : State}
    (h : s.vram.below (4 * s.cfg.vramWords)) :
    (pixWrite code bp bw x y p s).vram.below (4 * s.cfg.vramWords) := by
  rcases pixWrite_cases code bp bw x y p s with ⟨e, _, he⟩ | ⟨l, _, hb, he⟩
  · rw [he]; exact h
  · rw [he]; exact writeWord_below _ h hb

/-! ### Contexts -/

/-- A copy of a pair reads as what was written to it. -/
@[simp] theorem Pair.get_set_same (p : Pair) (c : Ctx) (v : Word64) : (p.set c v).get c = v := by
  cases c <;> rfl

/-- Writing one copy of a pair leaves the other. -/
theorem Pair.get_set_other (p : Pair) {c d : Ctx} (v : Word64) (h : d ≠ c) :
    (p.set c v).get d = p.get d := by
  cases c <;> cases d <;> first | rfl | exact absurd rfl h

/-! ### Vertex commit -/

/-- Every type needs a vertex. -/
theorem vertsNeeded_pos (t : PrimType) : 0 < vertsNeeded t := by cases t <;> decide

/-- What a type keeps of a queue of at most `NEEDED` vertices is less than it needs. -/
theorem vertsKept_length {t : PrimType} {vq : List Vertex} (h : vq.length ≤ vertsNeeded t) :
    (vertsKept t vq).length < vertsNeeded t := by
  cases t <;> simp [vertsKept, vertsNeeded] at h ⊢ <;> omega

/-- A kick is a draw event, or E_PRIM_RESERVED for type 7. -/
theorem kickPrim_cases (s : State) :
    (primTypeOf s.reg.prim = .reserved ∧ kickPrim s = raise (.primReserved s.reg.prim) s) ∨
    (primTypeOf s.reg.prim ≠ .reserved ∧ kickPrim s = emitDraw (primTypeOf s.reg.prim) s) := by
  unfold kickPrim
  split
  · exact .inl ⟨‹_›, rfl⟩
  · exact .inr ⟨by simpa using ‹_›, rfl⟩

@[simp] theorem kickPrim_cfg (s : State) : (kickPrim s).cfg = s.cfg := by
  unfold kickPrim; split <;> rfl

@[simp] theorem kickPrim_dec (s : State) : (kickPrim s).dec = s.dec := by
  unfold kickPrim; split <;> rfl

@[simp] theorem kickPrim_reg (s : State) : (kickPrim s).reg = s.reg := by
  unfold kickPrim; split <;> rfl

@[simp] theorem kickPrim_vq (s : State) : (kickPrim s).vq = s.vq := by
  unfold kickPrim; split <;> rfl

@[simp] theorem kickPrim_xfer (s : State) : (kickPrim s).xfer = s.xfer := by
  unfold kickPrim; split <;> rfl

@[simp] theorem kickPrim_priv (s : State) : (kickPrim s).priv = s.priv := by
  unfold kickPrim; split <;> rfl

@[simp] theorem kickPrim_inbox (s : State) : (kickPrim s).inbox = s.inbox := by
  unfold kickPrim; split <;> rfl

/-- A commit that does not complete a primitive only queues its vertex. -/
theorem commitVertex_short {x y : BitVec 16} {z : BitVec 32} (kick : Bool) {s : State}
    (h : s.vq.length + 1 < vertsNeeded (primTypeOf s.reg.prim)) :
    commitVertex x y z kick s = s.setVq (s.vq ++ [captureVertex s.reg x y z]) := by
  unfold commitVertex
  exact if_pos (by simpa using h)

/-- A commit that completes a primitive: the kick if there is one, then the vertices kept. -/
theorem commitVertex_full {x y : BitVec 16} {z : BitVec 32} (kick : Bool) {s : State}
    (h : ¬ s.vq.length + 1 < vertsNeeded (primTypeOf s.reg.prim)) :
    commitVertex x y z kick s =
      (if kick then kickPrim (s.setVq (s.vq ++ [captureVertex s.reg x y z]))
        else s.setVq (s.vq ++ [captureVertex s.reg x y z])).setVq
        (vertsKept (primTypeOf s.reg.prim) (s.vq ++ [captureVertex s.reg x y z])) := by
  unfold commitVertex
  refine (if_neg (by simpa using h)).trans ?_
  cases kick <;> simp

@[simp] theorem commitVertex_cfg (x y : BitVec 16) (z : BitVec 32) (kick : Bool) (s : State) :
    (commitVertex x y z kick s).cfg = s.cfg := by
  by_cases h : s.vq.length + 1 < vertsNeeded (primTypeOf s.reg.prim)
  · rw [commitVertex_short kick h]; rfl
  · rw [commitVertex_full kick h]; cases kick <;> simp

@[simp] theorem commitVertex_dec (x y : BitVec 16) (z : BitVec 32) (kick : Bool) (s : State) :
    (commitVertex x y z kick s).dec = s.dec := by
  by_cases h : s.vq.length + 1 < vertsNeeded (primTypeOf s.reg.prim)
  · rw [commitVertex_short kick h]; rfl
  · rw [commitVertex_full kick h]; cases kick <;> simp

@[simp] theorem commitVertex_reg (x y : BitVec 16) (z : BitVec 32) (kick : Bool) (s : State) :
    (commitVertex x y z kick s).reg = s.reg := by
  by_cases h : s.vq.length + 1 < vertsNeeded (primTypeOf s.reg.prim)
  · rw [commitVertex_short kick h]; rfl
  · rw [commitVertex_full kick h]; cases kick <;> simp

@[simp] theorem commitVertex_xfer (x y : BitVec 16) (z : BitVec 32) (kick : Bool) (s : State) :
    (commitVertex x y z kick s).xfer = s.xfer := by
  by_cases h : s.vq.length + 1 < vertsNeeded (primTypeOf s.reg.prim)
  · rw [commitVertex_short kick h]; rfl
  · rw [commitVertex_full kick h]; cases kick <;> simp

@[simp] theorem commitVertex_priv (x y : BitVec 16) (z : BitVec 32) (kick : Bool) (s : State) :
    (commitVertex x y z kick s).priv = s.priv := by
  by_cases h : s.vq.length + 1 < vertsNeeded (primTypeOf s.reg.prim)
  · rw [commitVertex_short kick h]; rfl
  · rw [commitVertex_full kick h]; cases kick <;> simp

@[simp] theorem commitVertex_inbox (x y : BitVec 16) (z : BitVec 32) (kick : Bool) (s : State) :
    (commitVertex x y z kick s).inbox = s.inbox := by
  by_cases h : s.vq.length + 1 < vertsNeeded (primTypeOf s.reg.prim)
  · rw [commitVertex_short kick h]; rfl
  · rw [commitVertex_full kick h]; cases kick <;> simp

/-- The queue after a commit: the new vertex at its end, or what the type keeps of the whole
primitive. -/
theorem commitVertex_vq (x y : BitVec 16) (z : BitVec 32) (kick : Bool) (s : State) :
    (commitVertex x y z kick s).vq =
      if s.vq.length + 1 < vertsNeeded (primTypeOf s.reg.prim) then
        s.vq ++ [captureVertex s.reg x y z]
      else vertsKept (primTypeOf s.reg.prim) (s.vq ++ [captureVertex s.reg x y z]) := by
  split
  · rw [commitVertex_short kick ‹_›]; rfl
  · rw [commitVertex_full kick ‹_›]; rfl

/-- Memory after a commit: unchanged, or the rasterizer's words of one draw written. -/
theorem commitVertex_vram (x y : BitVec 16) (z : BitVec 32) (kick : Bool) (s : State) :
    (commitVertex x y z kick s).vram = s.vram ∨
    ∃ ws, (commitVertex x y z kick s).vram = writeWords s.cfg s.vram ws := by
  by_cases h : s.vq.length + 1 < vertsNeeded (primTypeOf s.reg.prim)
  · rw [commitVertex_short kick h]; exact .inl rfl
  · rw [commitVertex_full kick h]
    cases kick
    · exact .inl rfl
    · rcases kickPrim_cases (s.setVq (s.vq ++ [captureVertex s.reg x y z])) with ⟨_, h⟩ | ⟨_, h⟩
      · left; simp [h]
      · right; rw [if_pos rfl, h]; exact ⟨_, rfl⟩

end Sys2Proof.Machine
end

