-- ==== Sys2Proof/Laws/Transfer.lean ====
section
/-! SUPPORT. What the transfer engine's operations can do (44_transfer_engine.md R380 to R398). -/

namespace Sys2Proof.Machine

/-! ### Depths -/

/-- A mode has at least one bit. -/
theorem bppOf_pos (p : Psm) : 0 < bppOf p := by cases p <;> decide

/-- A mode has at most 32 bits. -/
theorem bppOf_le (p : Psm) : bppOf p ≤ 32 := by cases p <;> decide

/-- The depth of a valid transfer is that of a mode. -/
theorem xferDepth_ok {dir : XferDir} {buf : Word64} {d : Nat} (h : xferDepth dir buf = .ok d) :
    ∃ p, d = bppOf p := by
  unfold xferDepth at h
  cases dir <;> dsimp only at h
  · split at h
    · cases h; exact ⟨_, rfl⟩
    · cases h
  · split at h
    · cases h; exact ⟨_, rfl⟩
    · cases h
  · split at h
    · split at h
      · cases h; exact ⟨_, rfl⟩
      · cases h
    · cases h
    · cases h
    · cases h

/-- A valid transfer has a depth of 1 to 32 bits. -/
theorem xferDepth_range {dir : XferDir} {buf : Word64} {d : Nat} (h : xferDepth dir buf = .ok d) :
    0 < d ∧ d ≤ 32 := by
  obtain ⟨p, rfl⟩ := xferDepth_ok h
  exact ⟨bppOf_pos p, bppOf_le p⟩

/-! ### What the pixels of a transfer leave alone -/

/-- `s'` follows from `s` by pixel accesses and progress of the engine: everything but the engine,
memory and the report is as before, and memory stays inside the buffer in its one form. -/
structure Moves (s s' : State) : Prop where
  cfg : s'.cfg = s.cfg
  dec : s'.dec = s.dec
  reg : s'.reg = s.reg
  vq : s'.vq = s.vq
  priv : s'.priv = s.priv
  inbox : s'.inbox = s.inbox
  draws : s'.out.draws = s.out.draws
  result : s'.out.result = s.out.result
  wf : s.vram.wf → s'.vram.wf
  below : s.vram.below (4 * s.cfg.vramWords) → s'.vram.below (4 * s.cfg.vramWords)
  settled : s.unmodelled = true → s'.unmodelled = true

theorem Moves.refl (s : State) : Moves s s := ⟨rfl, rfl, rfl, rfl, rfl, rfl, rfl, rfl, id, id, id⟩

theorem Moves.trans {a b c : State} (h : Moves a b) (k : Moves b c) : Moves a c where
  cfg := k.cfg.trans h.cfg
  dec := k.dec.trans h.dec
  reg := k.reg.trans h.reg
  vq := k.vq.trans h.vq
  priv := k.priv.trans h.priv
  inbox := k.inbox.trans h.inbox
  draws := k.draws.trans h.draws
  result := k.result.trans h.result
  wf := k.wf ∘ h.wf
  below := fun hb => by have := k.below; rw [h.cfg] at this; exact this (h.below hb)
  settled := k.settled ∘ h.settled

/-- Progress of the engine alone. -/
theorem Moves.setXfer (s : State) (x : Xfer) : Moves s (s.setXfer x) :=
  ⟨rfl, rfl, rfl, rfl, rfl, rfl, rfl, rfl, id, id, id⟩

/-- An error record. -/
theorem Moves.raise (e : Err) (s : State) : Moves s (Machine.raise e s) :=
  ⟨rfl, rfl, rfl, rfl, rfl, rfl, rfl, rfl, id, id, fun h => by simp [h]⟩

theorem Moves.pixRead (code : BitVec 6) (bp bw x y : Nat) (s : State) :
    Moves s (Machine.pixRead code bp bw x y s).2 := by
  rcases pixRead_cases code bp bw x y s with ⟨e, _, h⟩ | ⟨l, _, h⟩ <;> rw [h]
  · exact Moves.raise e s
  · exact Moves.refl s

theorem Moves.pixWrite (code : BitVec 6) (bp bw x y : Nat) (p : Word32) (s : State) :
    Moves s (Machine.pixWrite code bp bw x y p s) := by
  have hw := pixWrite_wf code bp bw x y p (s := s)
  have hb := pixWrite_below code bp bw x y p (s := s)
  rcases pixWrite_cases code bp bw x y p s with ⟨e, _, h⟩ | ⟨l, _, _, h⟩
  · rw [h]; exact Moves.raise e s
  · rw [h] at hw hb ⊢; exact ⟨rfl, rfl, rfl, rfl, rfl, rfl, rfl, rfl, hw, hb, id⟩

theorem Moves.readSource (off : Nat × Nat) (s : State) : Moves s (Machine.readSource off s).2 :=
  Moves.pixRead ..

theorem Moves.writeDest (off : Nat × Nat) (p : Word32) (s : State) :
    Moves s (Machine.writeDest off p s) := Moves.pixWrite ..

theorem Moves.countPixel (s : State) : Moves s (Machine.countPixel s) := Moves.setXfer ..

@[simp] theorem readSource_xfer (off : Nat × Nat) (s : State) : (readSource off s).2.xfer = s.xfer :=
  pixRead_xfer ..

@[simp] theorem writeDest_xfer (off : Nat × Nat) (p : Word32) (s : State) :
    (writeDest off p s).xfer = s.xfer := pixWrite_xfer ..

/-! ### Local copy (R389) -/

theorem Moves.copyPixel (k : Nat) (s : State) : Moves s (Machine.copyPixel k s) := by
  unfold Machine.copyPixel
  refine Moves.trans ?_ (Moves.countPixel _)
  split
  · exact (Moves.readSource ..).trans (Moves.writeDest ..)
  · exact Moves.readSource ..

/-- A copied pixel is counted, whether it was moved or rejected. -/
@[simp] theorem copyPixel_xfer (k : Nat) (s : State) :
    (copyPixel k s).xfer =
      { s.xfer with pixels := s.xfer.pixels + 1, addr := s.xfer.addr + s.xfer.bitDepth } := by
  unfold copyPixel
  dsimp only
  rw [countPixel_xfer]
  split <;> simp

theorem Moves.copyPixels (n k : Nat) (s : State) : Moves s (Machine.copyPixels n k s) := by
  induction n generalizing k s with
  | zero => exact Moves.refl s
  | succ n ih => exact (Moves.copyPixel k s).trans (ih ..)

/-- A copy of `n` pixels counts `n` pixels. -/
theorem copyPixels_xfer (n k : Nat) (s : State) :
    (copyPixels n k s).xfer =
      { s.xfer with pixels := s.xfer.pixels + n, addr := s.xfer.addr + n * s.xfer.bitDepth } := by
  induction n generalizing k s with
  | zero => simp [copyPixels]
  | succ n ih =>
    rw [copyPixels, ih, copyPixel_xfer]
    simp only [Xfer.mk.injEq, true_and, and_true]
    constructor
    · omega
    · rw [Nat.add_mul]; omega

theorem Moves.localCopy (s : State) : Moves s (Machine.localCopy s) := Moves.copyPixels ..

/-- A local copy counts every pixel of the rectangle. -/
theorem localCopy_xfer (s : State) :
    (localCopy s).xfer =
      { s.xfer with pixels := s.xfer.pixels + s.xfer.total,
                    addr := s.xfer.addr + s.xfer.total * s.xfer.bitDepth } :=
  copyPixels_xfer ..

/-! ### Host to local (R391 to R393) -/

theorem Moves.takePixel (s : State) : Moves s (Machine.takePixel s) :=
  ((Moves.setXfer ..).trans (Moves.writeDest ..)).trans (Moves.countPixel _)

/-- A pixel taken from the stream. -/
theorem takePixel_xfer (s : State) :
    (takePixel s).xfer =
      { s.xfer with
        streamBits := s.xfer.streamBits >>> s.xfer.bitDepth
        streamN := s.xfer.streamN - s.xfer.bitDepth
        pixels := s.xfer.pixels + 1
        addr := s.xfer.addr + s.xfer.bitDepth } := by
  unfold takePixel
  simp

theorem Moves.takePixels (n : Nat) (s : State) : Moves s (Machine.takePixels n s) := by
  induction n generalizing s with
  | zero => exact Moves.refl s
  | succ n ih =>
    unfold Machine.takePixels
    split
    · exact (Moves.takePixel s).trans (ih _)
    · exact Moves.refl s

/-- The engine after `k` pixels taken from the stream. -/
def takenXfer (k : Nat) (x : Xfer) : Xfer :=
  { x with
    streamBits := x.streamBits >>> (k * x.bitDepth)
    streamN := x.streamN - k * x.bitDepth
    pixels := x.pixels + k
    addr := x.addr + k * x.bitDepth }

/-- What the loop of R392 can do: it takes some number of pixels that the stream held and the
rectangle had left, and stops at its bound, at a stream without a whole pixel, or at the end of the
rectangle. -/
theorem takePixels_xfer (n : Nat) (s : State) (hp : s.xfer.pixels ≤ s.xfer.total) :
    ∃ k, (takePixels n s).xfer = takenXfer k s.xfer ∧
      k * s.xfer.bitDepth ≤ s.xfer.streamN ∧ s.xfer.pixels + k ≤ s.xfer.total ∧
      (k = n ∨ s.xfer.streamN - k * s.xfer.bitDepth < s.xfer.bitDepth ∨
        s.xfer.pixels + k = s.xfer.total) := by
  induction n generalizing s with
  | zero => exact ⟨0, by simp [takePixels, takenXfer], by simp, by simpa using hp, .inl rfl⟩
  | succ n ih =>
    unfold takePixels
    split
    · obtain ⟨hd, hlt⟩ := ‹_ ∧ _›
      have hx := takePixel_xfer s
      obtain ⟨k, h1, h2, h3, h4⟩ := ih (takePixel s) (by rw [hx]; exact hlt)
      rw [hx] at h1 h2 h3 h4
      dsimp only at h1 h2 h3 h4
      have e : (k + 1) * s.xfer.bitDepth = k * s.xfer.bitDepth + s.xfer.bitDepth := by ring
      refine ⟨k + 1, ?_, by omega, by omega, by omega⟩
      rw [h1]
      simp only [takenXfer, e, Xfer.mk.injEq, true_and]
      refine ⟨by omega, by omega, ?_, by omega⟩
      rw [← Nat.shiftRight_add, Nat.add_comm]
    · refine ⟨0, by simp [takenXfer], by simp, by simpa using hp, ?_⟩
      right
      by_cases h : s.xfer.bitDepth ≤ s.xfer.streamN
      · right
        have : ¬ s.xfer.pixels < s.xfer.total := fun h' => ‹¬ (_ ∧ _)› ⟨h, h'⟩
        omega
      · left; simpa using h

/-- What an HWREG write can do (R392, R393, R396). -/
theorem hwregWrite_cases (v : Word64) (s : State) :
    (¬ (s.xfer.active = true ∧ s.xfer.dir = .hostToLocal) ∧
      hwregWrite v s = raise (.hwregInactive .write) s) ∨
    (s.xfer.active = true ∧ s.xfer.dir = .hostToLocal ∧
      ∃ s2, s2 = takePixels (s.xfer.total - s.xfer.pixels) (pushWord v s) ∧
        ((s2.xfer.pixels = s2.xfer.total ∧
            hwregWrite v s =
              deactivate (s2.setXfer { s2.xfer with streamBits := 0, streamN := 0 })) ∨
          (s2.xfer.pixels ≠ s2.xfer.total ∧ hwregWrite v s = s2))) := by
  unfold hwregWrite
  split
  · obtain ⟨h1, h2⟩ := ‹_ ∧ _›
    refine .inr ⟨h1, h2, _, rfl, ?_⟩
    by_cases h : (takePixels (s.xfer.total - s.xfer.pixels) (pushWord v s)).xfer.pixels =
        (takePixels (s.xfer.total - s.xfer.pixels) (pushWord v s)).xfer.total
    · exact .inl ⟨h, if_pos h⟩
    · exact .inr ⟨h, if_neg h⟩
  · exact .inl ⟨‹_›, rfl⟩

/-! ### Local to host (R394, R395) -/

theorem Moves.givePixel (s : State) : Moves s (Machine.givePixel s) :=
  ((Moves.readSource ..).trans (Moves.setXfer ..)).trans (Moves.countPixel _)

/-- A pixel appended to the stream: which bits depends on memory, where they go does not. -/
theorem givePixel_xfer (s : State) :
    ∃ p, p < 2 ^ s.xfer.bitDepth ∧
      (givePixel s).xfer =
        { s.xfer with
          streamBits := s.xfer.streamBits ||| (p <<< s.xfer.streamN)
          streamN := s.xfer.streamN + s.xfer.bitDepth
          pixels := s.xfer.pixels + 1
          addr := s.xfer.addr + s.xfer.bitDepth } := by
  refine ⟨(readSource (xferXY s.xfer s.xfer.pixels 0#2) s).1.1.toNat % 2 ^ s.xfer.bitDepth,
    Nat.mod_lt _ (by positivity), ?_⟩
  unfold givePixel
  simp

theorem Moves.givePixels (n : Nat) (s : State) : Moves s (Machine.givePixels n s) := by
  induction n generalizing s with
  | zero => exact Moves.refl s
  | succ n ih =>
    unfold Machine.givePixels
    split
    · exact (Moves.givePixel s).trans (ih _)
    · exact Moves.refl s

/-- Bits put above a stream stay below its new length. -/
theorem stream_append_lt {b n p d : Nat} (hb : b < 2 ^ n) (hp : p < 2 ^ d) :
    b ||| (p <<< n) < 2 ^ (n + d) := by
  refine Nat.or_lt_two_pow (lt_of_lt_of_le hb (Nat.pow_le_pow_right (by norm_num) (by omega))) ?_
  rw [Nat.shiftLeft_eq, Nat.add_comm, Nat.pow_add]
  exact Nat.mul_lt_mul_of_pos_right hp (by positivity)

/-- What the loop of R394 can do: it appends some number of pixels, while the stream held no whole
word, and stops at its bound, at a whole word, or at the end of the rectangle. -/
theorem givePixels_xfer (n : Nat) (s : State) (hp : s.xfer.pixels ≤ s.xfer.total)
    (hs : s.xfer.streamBits < 2 ^ s.xfer.streamN) :
    ∃ k b, (givePixels n s).xfer =
        { s.xfer with
          streamBits := b
          streamN := s.xfer.streamN + k * s.xfer.bitDepth
          pixels := s.xfer.pixels + k
          addr := s.xfer.addr + k * s.xfer.bitDepth } ∧
      b < 2 ^ (s.xfer.streamN + k * s.xfer.bitDepth) ∧
      s.xfer.pixels + k ≤ s.xfer.total ∧
      (k = 0 ∨ s.xfer.streamN + k * s.xfer.bitDepth < 64 + s.xfer.bitDepth) ∧
      (k = n ∨ 64 ≤ s.xfer.streamN + k * s.xfer.bitDepth ∨ s.xfer.pixels + k = s.xfer.total) := by
  induction n generalizing s with
  | zero => exact ⟨0, s.xfer.streamBits, by simp [givePixels], by simpa using hs,
      by simpa using hp, .inl rfl, .inl rfl⟩
  | succ n ih =>
    unfold givePixels
    split
    · obtain ⟨h64, hlt⟩ := ‹_ ∧ _›
      obtain ⟨p, hpb, hx⟩ := givePixel_xfer s
      obtain ⟨k, b, h1, h2, h3, h4, h5⟩ := ih (givePixel s) (by rw [hx]; exact hlt)
        (by rw [hx]; exact stream_append_lt hs hpb)
      rw [hx] at h1 h2 h3 h4 h5
      dsimp only at h1 h2 h3 h4 h5
      have e : s.xfer.streamN + (k + 1) * s.xfer.bitDepth =
          s.xfer.streamN + s.xfer.bitDepth + k * s.xfer.bitDepth := by ring
      refine ⟨k + 1, b, ?_, by rw [e]; exact h2, by omega, ?_, by omega⟩
      · rw [h1]
        simp only [Xfer.mk.injEq, true_and]
        exact ⟨by omega, by rw [Nat.add_mul]; omega, e.symm⟩
      · right
        rcases h4 with rfl | h4 <;> omega
    · refine ⟨0, s.xfer.streamBits, by simp, by simpa using hs, by simpa using hp, .inl rfl, ?_⟩
      right
      by_cases h : s.xfer.streamN < 64
      · right
        have : ¬ s.xfer.pixels < s.xfer.total := fun h' => ‹¬ (_ ∧ _)› ⟨h, h'⟩
        omega
      · left; omega

/-- The word of an HWREG read taken off the stream. -/
def shiftOut (s : State) : State :=
  s.setXfer { s.xfer with
    streamBits := s.xfer.streamBits >>> 64
    streamN := s.xfer.streamN - 64 }

/-- What an HWREG read can do (R394 to R396). -/
theorem hwregRead_cases (s : State) :
    (¬ (s.xfer.active = true ∧ s.xfer.dir = .localToHost) ∧
      hwregRead s = (0#64, raise (.hwregInactive .read) s)) ∨
    (s.xfer.active = true ∧ s.xfer.dir = .localToHost ∧
      ∃ s1, s1 = givePixels (s.xfer.total - s.xfer.pixels) s ∧
        hwregRead s = (BitVec.ofNat 64 s1.xfer.streamBits,
          if s1.xfer.pixels = s1.xfer.total ∧ s1.xfer.streamN - 64 = 0 then deactivate (shiftOut s1)
          else shiftOut s1)) := by
  unfold hwregRead
  split
  · obtain ⟨h1, h2⟩ := ‹_ ∧ _›
    exact .inr ⟨h1, h2, _, rfl, rfl⟩
  · exact .inl ⟨‹_›, rfl⟩

/-! ### TRXDIR (R383 to R390) -/

/-- TRXDIR stored. -/
def storeTrxdir (v : Word64) (s : State) : State := s.setReg { s.reg with trxdir := v }

/-- What a TRXDIR write can do: cancel; refuse an invalid transfer; end an empty one; perform a
local copy; arm a host transfer. -/
theorem trxdirWrite_cases (v : Word64) (s : State) :
    (xferDirOf (trxdirXDIR v) = none ∧ trxdirWrite v s = cancelXfer (storeTrxdir v s)) ∨
    (∃ dir, xferDirOf (trxdirXDIR v) = some dir ∧
      ((∃ e, xferDepth dir s.reg.bitbltbuf = .error e ∧
          trxdirWrite v s =
            deactivate (setDepth 0 (raise (.unmodelled e) (latchXfer dir (storeTrxdir v s))))) ∨
        (∃ d, xferDepth dir s.reg.bitbltbuf = .ok d ∧
          ∃ s2, s2 = setDepth d (latchXfer dir (storeTrxdir v s)) ∧
            ((s2.xfer.total = 0 ∧ trxdirWrite v s = deactivate s2) ∨
              (s2.xfer.total ≠ 0 ∧ dir = .localToLocal ∧
                trxdirWrite v s = deactivate (localCopy s2)) ∨
              (s2.xfer.total ≠ 0 ∧ dir ≠ .localToLocal ∧
                trxdirWrite v s = s2.setXfer { s2.xfer with active := true }))))) := by
  unfold trxdirWrite
  dsimp only
  split
  · exact .inl ⟨‹_›, rfl⟩
  · rename_i dir hdir
    refine .inr ⟨dir, hdir, ?_⟩
    split
    · exact .inl ⟨_, ‹_›, rfl⟩
    · refine .inr ⟨_, ‹_›, _, rfl, ?_⟩
      split
      · exact .inl ⟨‹_›, rfl⟩
      · split
        · exact .inr (.inl ⟨‹_›, ‹_›, rfl⟩)
        · exact .inr (.inr ⟨‹_›, ‹_›, rfl⟩)

end Sys2Proof.Machine
end

