-- ==== Sys2Proof/Laws/Registers.lean ====
section
/-! SUPPORT. What a general register write and a privileged access can do
(42_general_registers.md R280 to R336; 45_privileged_registers.md R430 to R451). -/

namespace Sys2Proof.Machine

/-! ### Ids and addresses -/

/-- Every register is listed once, under its own id. -/
theorem GReg.ofId_id (r : GReg) : GReg.ofId r.id = some r := by cases r <;> decide

/-- An id that names a register is that register's. -/
theorem GReg.id_of_ofId {id : BitVec 8} {r : GReg} (h : GReg.ofId id = some r) : r.id = id := by
  have := List.find?_some h
  simpa using this

/-- A base address reaches the low half of its register. -/
theorem privDecode_addr (r : PrivReg) : privDecode r.addr = some (r, .low) := by
  cases r <;> decide

/-- A base address + 4 reaches the high half of its register. -/
theorem privDecode_addr_add (r : PrivReg) : privDecode (r.addr + 4#32) = some (r, .high) := by
  cases r <;> decide

/-- A mapped address is a base address or a base address + 4. -/
theorem privDecode_some {a : Word32} {r : PrivReg} {part : Part}
    (h : privDecode a = some (r, part)) :
    (part = .low ∧ r.addr = a) ∨ (part = .high ∧ r.addr + 4#32 = a) := by
  unfold privDecode at h
  split at h
  · have := List.find?_some ‹_›
    cases h; exact .inl ⟨rfl, by simpa using this⟩
  · split at h
    · have := List.find?_some ‹List.find? _ _ = some _›
      cases h; exact .inr ⟨rfl, by simpa using this⟩
    · cases h

/-! ### The write port -/

/-- A register file whose PRIM and TRXDIR are those of another: what every write but theirs
leaves. -/
def SameControl (r r' : RegFile) : Prop := r'.prim = r.prim ∧ r'.trxdir = r.trxdir

/-- What the write of a register can do: a store; PRIM's store with the queue emptied; a store and
a vertex commit; nothing (TEXFLUSH); the transfer engine's two ports; the three registers of
SIGLBLID and CSR. -/
theorem putReg_cases (r : GReg) (v : Word64) (s : State) :
    (∃ r', putReg r v s = s.setReg r' ∧ SameControl s.reg r') ∨
    (r = .prim ∧ putReg r v s = (s.setReg { s.reg with prim := v }).setVq []) ∨
    (∃ r' x y z k, putReg r v s = commitVertex x y z k (s.setReg r') ∧ SameControl s.reg r') ∨
    (r = .texflush ∧ putReg r v s = s) ∨
    (r = .trxdir ∧ putReg r v s = trxdirWrite v s) ∨
    (r = .hwreg ∧ putReg r v s = hwregWrite v s) ∨
    (r = .signal ∧ putReg r v s = putSignal v s) ∨
    (r = .finish ∧ putReg r v s = putFinish v s) ∨
    (r = .label ∧ putReg r v s = putLabel v s) := by
  cases r
  case prim => exact .inr (.inl ⟨rfl, rfl⟩)
  case xyzf2 => exact .inr (.inr (.inl ⟨_, _, _, _, _, rfl, rfl, rfl⟩))
  case xyz2 => exact .inr (.inr (.inl ⟨_, _, _, _, _, rfl, rfl, rfl⟩))
  case xyzf3 => exact .inr (.inr (.inl ⟨_, _, _, _, _, rfl, rfl, rfl⟩))
  case xyz3 => exact .inr (.inr (.inl ⟨_, _, _, _, _, rfl, rfl, rfl⟩))
  case texflush => exact .inr (.inr (.inr (.inl ⟨rfl, rfl⟩)))
  case trxdir => exact .inr (.inr (.inr (.inr (.inl ⟨rfl, rfl⟩))))
  case hwreg => exact .inr (.inr (.inr (.inr (.inr (.inl ⟨rfl, rfl⟩)))))
  case signal => exact .inr (.inr (.inr (.inr (.inr (.inr (.inl ⟨rfl, rfl⟩))))))
  case finish => exact .inr (.inr (.inr (.inr (.inr (.inr (.inr (.inl ⟨rfl, rfl⟩)))))))
  case label => exact .inr (.inr (.inr (.inr (.inr (.inr (.inr (.inr ⟨rfl, rfl⟩)))))))
  all_goals exact .inl ⟨_, rfl, rfl, rfl⟩

/-- What a write by id can do: the write of the register of that id, or E_UNKNOWN_REG. -/
theorem writeReg_cases (id : BitVec 8) (v : Word64) (src : Src) (s : State) :
    (∃ r, GReg.ofId id = some r ∧ writeReg id v src s = putReg r v s) ∨
    (GReg.ofId id = none ∧ writeReg id v src s = raise (.unknownReg src id) s) := by
  unfold writeReg
  split
  · exact .inl ⟨_, ‹_›, rfl⟩
  · exact .inr ⟨‹_›, rfl⟩

/-- The write by the id of a register is that register's write, from every source (R280). -/
theorem writeReg_id (r : GReg) (v : Word64) (src : Src) (s : State) :
    writeReg r.id v src s = putReg r v s := by
  unfold writeReg
  rw [GReg.ofId_id]

/-! ### The registers of SIGLBLID and CSR leave the rest -/

/-- SIGNAL writes two privileged registers' worth of state, and a report. -/
theorem putSignal_cases (v : Word64) (s : State) :
    ∃ s0, (s0 = s ∨ s0 = raise (.unmodelled .signalPending) s) ∧
      ∃ p, putSignal v s = s0.setPriv p ∧ p.csrNfield = s.priv.csrNfield ∧
        p.csrEdwint = s.priv.csrEdwint := by
  unfold putSignal
  dsimp only
  split
  · exact ⟨_, .inr rfl, _, rfl, rfl, rfl⟩
  · exact ⟨_, .inl rfl, _, rfl, rfl, rfl⟩

/-! ### Privileged accesses -/

/-- A masked store leaves the event flags. -/
theorem privStore_flags (r : PrivReg) (w m : Word64) (p : PrivRegs) :
    (privStore r w m p).csrNfield = p.csrNfield ∧ (privStore r w m p).csrEdwint = p.csrEdwint := by
  cases r <;> exact ⟨rfl, rfl⟩

/-- Reading back a masked store gives the merged value. -/
theorem privRead_privStore_same {r : PrivReg} (cfg : Params) (w m : Word64) (p : PrivRegs)
    (h : r ≠ .csr) : privRead cfg (privStore r w m p) r = maskMerge (privRead cfg p r) w m := by
  cases r <;> first | rfl | exact absurd rfl h

/-- What a privileged write can do: a masked store, or CSR's acknowledge and reset. -/
theorem privWrite_cases (r : PrivReg) (w m : Word64) (s : State) :
    (r ≠ .csr ∧ privWrite r w m s = s.setPriv (privStore r w m s.priv)) ∨
    (r = .csr ∧ privWrite r w m s = csrWrite ((w &&& m).setWidth 32) s) := by
  cases r <;> first | exact .inr ⟨rfl, rfl⟩ | exact .inl ⟨by decide, rfl⟩

/-- What a CSR write can do: acknowledge flags, and reset when bit 9 is set. -/
theorem csrWrite_cases (w : Word32) (s : State) :
    (w.getLsbD 9 = false ∧ csrWrite w s = s.setPriv (csrAck w s.priv)) ∨
    (w.getLsbD 9 = true ∧ csrWrite w s = resetBlock s) := by
  unfold csrWrite
  split
  · exact .inr ⟨‹_›, rfl⟩
  · rename_i h; exact .inl ⟨by simpa using h, rfl⟩

end Sys2Proof.Machine
end

