-- ==== Sys2Proof/Laws/Gif.lean ====
section
/-! SUPPORT. What the packet decoder can do (40_gif_decoder.md R200 to R221). -/

namespace Sys2Proof.Machine

/-! ### Nothing but the decoder and the host's reset writes the decoder's state -/

@[simp] theorem deactivate_same_dec (s : State) : (deactivate s).dec = s.dec := rfl

@[simp] theorem cancelXfer_dec (s : State) : (cancelXfer s).dec = s.dec := by
  unfold cancelXfer; split <;> rfl

@[simp] theorem hwregWrite_dec (v : Word64) (s : State) : (hwregWrite v s).dec = s.dec := by
  rcases hwregWrite_cases v s with ⟨_, h⟩ | ⟨_, _, s2, rfl, ⟨_, h⟩ | ⟨_, h⟩⟩ <;> rw [h]
  · rfl
  · exact (Moves.takePixels _ _).dec
  · exact (Moves.takePixels _ _).dec

@[simp] theorem trxdirWrite_dec (v : Word64) (s : State) : (trxdirWrite v s).dec = s.dec := by
  rcases trxdirWrite_cases v s with ⟨_, h⟩ | ⟨dir, _, ⟨e, _, h⟩ | ⟨d, _, s2, rfl, ⟨_, h⟩ | ⟨_, _, h⟩ |
    ⟨_, _, h⟩⟩⟩ <;> rw [h]
  · exact cancelXfer_dec _
  · rfl
  · rfl
  · exact (Moves.localCopy _).dec
  · rfl

@[simp] theorem putReg_dec (r : GReg) (v : Word64) (s : State) : (putReg r v s).dec = s.dec := by
  rcases putReg_cases r v s with ⟨_, h, _⟩ | ⟨_, h⟩ | ⟨_, _, _, _, _, h, _⟩ | ⟨_, h⟩ | ⟨_, h⟩ |
    ⟨_, h⟩ | ⟨_, h⟩ | ⟨_, h⟩ | ⟨_, h⟩ <;> rw [h] <;> try rfl
  · simp
  · simp
  · simp
  · obtain ⟨s0, h0, p, h, _, _⟩ := putSignal_cases v s
    rw [h]; rcases h0 with rfl | rfl <;> rfl

/-- A register write leaves the decoder's state (R219). -/
@[simp] theorem writeReg_dec (id : BitVec 8) (v : Word64) (src : Src) (s : State) :
    (writeReg id v src s).dec = s.dec := by
  rcases writeReg_cases id v src s with ⟨r, _, h⟩ | ⟨_, h⟩ <;> rw [h]
  · exact putReg_dec ..
  · rfl

/-- A PACKED descriptor changes nothing of the decoder but `packed_Q` (41_packed.md R250). -/
theorem packedWrite_dec (d : BitVec 4) (q : Qword) (s : State) :
    (packedWrite d q s).dec = s.dec ∨
    (d = 2#4 ∧ (packedWrite d q s).dec = { s.dec with packedQ := pkSt_qc q }) := by
  unfold packedWrite
  split
  all_goals first
    | exact .inl (writeReg_dec ..)
    | exact .inl rfl
    | exact .inr ⟨rfl, by simp [packSt, latchQ]⟩

@[simp] theorem reglistWrite_dec (d : BitVec 4) (v : Word64) (s : State) :
    (reglistWrite d v s).dec = s.dec := by
  unfold reglistWrite
  split
  · rfl
  · exact writeReg_dec ..

@[simp] theorem imageData_dec (q : Qword) (s : State) : (imageData q s).dec = s.dec := by
  unfold imageData
  dsimp only
  split <;> simp

/-! ### Counters -/

/-- `reg_count` is 1 to 16, whatever NREG is (R205). -/
theorem regCountOf_range (n : BitVec 4) : 1 ≤ regCountOf n ∧ regCountOf n ≤ 16 := by
  unfold regCountOf
  split
  · omega
  · have h1 := n.isLt
    have h2 : n.toNat ≠ 0 := fun h => ‹¬ n = 0#4› (BitVec.eq_of_toNat_eq h)
    omega

/-- An exhausted tag awaits the next tag with nothing left (R214, R215). -/
theorem exhaustTag_inv {d : Decoder} (h : 1 ≤ d.regCount ∧ d.regCount ≤ 16) :
    DecoderInv (exhaustTag d) :=
  ⟨h, fun _ => ⟨rfl, rfl⟩, fun h => by cases h⟩

/-- A decoder inside a payload meets the invariant. -/
theorem processing_inv {d : Decoder} (hs : d.decState = .processing)
    (hr : 1 ≤ d.regCount ∧ d.regCount ≤ 16) (ho : d.packetOpen = true) (hd : d.dataLeft ≠ 0)
    (hl : formatOf d.tag.flg ≠ .image → 1 ≤ d.regsLeft ∧ d.regsLeft ≤ d.regCount)
    (hi : formatOf d.tag.flg = .image → d.regsLeft = 0) : DecoderInv d :=
  ⟨hr, fun h => absurd (hs.symm.trans h) (by decide),
    fun _ => ⟨ho, Nat.pos_of_ne_zero hd, hl, hi⟩⟩

/-- The counters of a latched tag keep the decoder's invariant (R208, R210). -/
theorem startPayload_inv (path : Path) (flg : BitVec 2) (t : TagFields) (d : Decoder) :
    DecoderInv (startPayload flg t (latchTag path flg t d)) := by
  have hr := regCountOf_range t.nreg
  unfold startPayload
  dsimp only
  split
  · exact exhaustTag_inv hr
  · rename_i hd
    refine processing_inv rfl hr rfl hd ?_ ?_
    · intro h
      change formatOf flg ≠ .image at h
      cases hf : formatOf flg
      · exact ⟨hr.1, le_refl _⟩
      · exact ⟨hr.1, le_refl _⟩
      · exact absurd hf h
    · intro h
      change formatOf flg = .image at h
      dsimp only
      rw [h]

/-- One unit of a descriptor's payload keeps the decoder's invariant (R211, R212). -/
theorem countUnit_inv {d : Decoder} (h : DecoderInv d) (hs : d.decState = .processing)
    (hf : formatOf d.tag.flg ≠ .image) : DecoderInv (countUnit d) := by
  obtain ⟨hr, _, hp⟩ := h
  obtain ⟨ho, hd, hl, _⟩ := hp hs
  have hl := hl hf
  unfold countUnit
  dsimp only
  split
  · exact exhaustTag_inv hr
  · rename_i hd'
    split
    · exact processing_inv hs hr ho hd' (fun _ => ⟨hr.1, le_refl _⟩) (fun h => absurd h hf)
    · rename_i hl'
      exact processing_inv hs hr ho hd'
        (fun _ => ⟨Nat.pos_of_ne_zero hl', le_trans (Nat.sub_le _ _) hl.2⟩) (fun h => absurd h hf)

/-- One IMAGE qword keeps the decoder's invariant (R213). -/
theorem countImage_inv {d : Decoder} (h : DecoderInv d) (hs : d.decState = .processing)
    (hf : formatOf d.tag.flg = .image) : DecoderInv (countImage d) := by
  obtain ⟨hr, _, hp⟩ := h
  obtain ⟨ho, hd, _, hl⟩ := hp hs
  unfold countImage
  dsimp only
  split
  · exact exhaustTag_inv hr
  · rename_i hd'
    exact processing_inv hs hr ho hd' (fun h => absurd hf h) (fun _ => hl hf)

/-! ### Ingress -/

/-- What a qword can do (R200 to R203). -/
theorem onQword_cases (path : Path) (q : Qword) (s : State) :
    (s.dec.packetOpen = true ∧ path ≠ s.dec.packetPath ∧
      onQword path q s = raise (.pathInterleave path s.dec.packetPath) s) ∨
    ((s.dec.packetOpen = false ∨ path = s.dec.packetPath) ∧
      ((s.dec.decState = .awaitingTag ∧
          onQword path q s = readTag path (tagFlg q) (tagFields s.cfg.nloopBits q) s) ∨
        (s.dec.decState = .processing ∧ onQword path q s = payloadStep q s))) := by
  unfold onQword
  split
  · obtain ⟨h1, h2⟩ := ‹_ ∧ _›
    exact .inl ⟨h1, h2, rfl⟩
  · refine .inr ⟨?_, ?_⟩
    · have h := ‹¬ (_ ∧ _)›
      by_cases ho : s.dec.packetOpen = true
      · right
        by_contra hp
        exact h ⟨ho, hp⟩
      · left; simpa using ho
    · split
      · exact .inl ⟨‹_›, rfl⟩
      · exact .inr ⟨‹_›, rfl⟩

/-- What `end_of_stream` can do (R216). -/
theorem endOfStream_cases (path : Path) (s : State) :
    endOfStream path s = s ∨ ∃ e, endOfStream path s = raise e s := by
  unfold endOfStream
  split
  · split
    · exact .inr ⟨_, rfl⟩
    · exact .inr ⟨_, rfl⟩
  · exact .inl rfl

end Sys2Proof.Machine
end

