-- ==== Sys2Proof/Laws/PerInstr.lean ====
section
/-! SUPPORT. The family RoundTrip: decoding what `encode` writes for an instruction gives the
instruction back, one lemma for each constructor of `Instr`. -/

namespace Sys2Proof.Laws

/-! ### Fields of a qword -/

/-- A field read where it was placed. -/
theorem extract_place_same {n lo : Nat} (v : BitVec n) (h : lo + n ≤ 128) :
    (place lo v).extractLsb' lo n = v := by
  apply BitVec.eq_of_getLsbD_eq
  intro i hi
  simp [place, hi, show lo + i < 128 by omega]

/-- A field read where nothing of another field was placed. -/
theorem extract_place_apart {n lo : Nat} (v : BitVec n) (lo' n' : Nat)
    (h : lo' + n' ≤ lo ∨ lo + n ≤ lo') : (place lo v).extractLsb' lo' n' = 0#n' := by
  apply BitVec.eq_of_getLsbD_eq
  intro i hi
  simp only [place, BitVec.getLsbD_extractLsb', BitVec.getLsbD_shiftLeft, BitVec.getLsbD_setWidth,
    BitVec.getLsbD_zero]
  rcases h with h | h
  · simp [show lo' + i < lo by omega]
  · simp [BitVec.getLsbD_of_ge v (lo' + i - lo) (by omega)]

/-- A flag read where it was placed. -/
theorem bitAt_place_same {i : Nat} (b : Bool) (h : i < 128) : bitAt (place i (flagBit b)) i = b := by
  cases b <;> simp [bitAt, place, flagBit, h]

/-- A bit read where nothing of a field was placed. -/
theorem bitAt_place_apart {n lo : Nat} (v : BitVec n) (i : Nat) (h : i < lo ∨ lo + n ≤ i) :
    bitAt (place lo v) i = false := by
  simp only [bitAt, place, BitVec.getLsbD_shiftLeft, BitVec.getLsbD_setWidth]
  rcases h with h | h
  · simp [h]
  · simp [BitVec.getLsbD_of_ge v (i - lo) (by omega)]

/-- A field of a union of fields. -/
theorem extract_or (x y : Qword) (lo n : Nat) :
    (x ||| y).extractLsb' lo n = x.extractLsb' lo n ||| y.extractLsb' lo n := by
  apply BitVec.eq_of_getLsbD_eq
  intro i hi
  simp [hi]

/-- A bit of a union of fields. -/
theorem bitAt_or (x y : Qword) (i : Nat) : bitAt (x ||| y) i = (bitAt x i || bitAt y i) := by
  simp [bitAt]

/-- A 15-bit number below 2^14 is its low 14 bits. -/
theorem low14 {n : BitVec 15} (h : n.toNat < 2 ^ 14) :
    (n.extractLsb' 0 14).setWidth 15 = n := by
  apply BitVec.eq_of_toNat_eq
  simp only [BitVec.toNat_setWidth, BitVec.extractLsb'_toNat, Nat.shiftRight_zero]
  rw [Nat.mod_eq_of_lt h]
  exact Nat.mod_eq_of_lt n.isLt

/-- The low bits of a field placed at 0. -/
theorem extract_place_low {n m : Nat} (v : BitVec n) (h : n ≤ 128) (hm : m ≤ n) :
    (place 0 v).extractLsb' 0 m = v.extractLsb' 0 m := by
  apply BitVec.eq_of_getLsbD_eq
  intro i hi
  simp [place, hi, show i < 128 by omega]

/-! ### GIFtags -/

/-- FLG of an encoded tag. -/
theorem tagFlg_encodeTag (flg : BitVec 2) (t : TagFields) : tagFlg (encodeTag flg t) = flg := by
  unfold tagFlg encodeTag
  simp (disch := omega) only [extract_or, extract_place_same, extract_place_apart, BitVec.zero_or,
    BitVec.or_zero]

/-- NLOOP of an encoded tag, where it fits its field. -/
theorem tagNloop_encodeTag (nb : NloopBits) (flg : BitVec 2) (t : TagFields)
    (h : nloopFits nb t.nloop = true) : tagNloop nb (encodeTag flg t) = t.nloop := by
  unfold tagNloop encodeTag
  cases nb
  · dsimp only
    simp (disch := omega) only [extract_or, extract_place_low, extract_place_apart, BitVec.or_zero]
    exact low14 (of_decide_eq_true h)
  · dsimp only
    simp (disch := omega) only [extract_or, extract_place_same, extract_place_apart, BitVec.or_zero]

/-- Every field of an encoded tag. -/
theorem tagFields_encodeTag (nb : NloopBits) (flg : BitVec 2) (t : TagFields)
    (h : nloopFits nb t.nloop = true) : tagFields nb (encodeTag flg t) = t := by
  unfold tagFields
  rw [tagNloop_encodeTag nb flg t h]
  unfold encodeTag
  simp (disch := omega) only [extract_or, bitAt_or, extract_place_same, extract_place_apart,
    bitAt_place_same, bitAt_place_apart, BitVec.zero_or, BitVec.or_zero, Bool.false_or,
    Bool.or_false]

/-! ### Ids and addresses -/

/-- Decoding by a register's id gives that register. -/
theorem decodeReg_id (r : GReg) (src : Src) (v : Word64) : decodeReg src r.id v = r.instr v := by
  have h : GReg.ofId r.id = some r := by cases r <;> decide
  unfold decodeReg
  rw [h]

/-- A half placed in 64 bits is read back. -/
theorem half_of_word (v : Word32) : (v.setWidth 64).setWidth 32 = v := by
  apply BitVec.eq_of_getLsbD_eq
  intro i hi
  simp [hi]

/-- Decoding an encoded access gives the access. -/
theorem decodePriv_encodePriv (nb : NloopBits) (r : PrivReg) (acc : PrivAccess) :
    decode nb (encodePriv r acc) = r.instr acc := by
  have hl : privDecode r.addr = some (r, .low) := by cases r <;> decide
  have hh : privDecode (r.addr + 4#32) = some (r, .high) := by cases r <;> decide
  rcases acc with v | ⟨_ | _, v⟩ | ⟨_ | _⟩ <;>
    simp only [encodePriv, decode, decodePriv, hl, hh, half_of_word]

/-! ### The family -/

/-- The instruction, where some bits stand for it, is what its encoding decodes to. -/
def RoundTrip.Statement (i : Instr) : Prop :=
  ∀ nb : NloopBits, i.wellFormed nb = true → decode nb (encode i) = i

theorem RoundTrip.giftagPacked (path : Path) (t : TagFields) :
    RoundTrip.Statement (.giftagPacked path t) := by
  intro nb h
  show decodeTag nb path (encodeTag _ t) = _
  unfold decodeTag
  rw [tagFlg_encodeTag, tagFields_encodeTag nb _ t h]
  rfl

theorem RoundTrip.giftagReglist (path : Path) (t : TagFields) :
    RoundTrip.Statement (.giftagReglist path t) := by
  intro nb h
  show decodeTag nb path (encodeTag _ t) = _
  unfold decodeTag
  rw [tagFlg_encodeTag, tagFields_encodeTag nb _ t h]
  rfl

theorem RoundTrip.giftagImage (path : Path) (t : TagFields) :
    RoundTrip.Statement (.giftagImage path t) := by
  intro nb h
  show decodeTag nb path (encodeTag _ t) = _
  unfold decodeTag
  rw [tagFlg_encodeTag, tagFields_encodeTag nb _ t h]
  rfl

theorem RoundTrip.giftagFlg3 (path : Path) (t : TagFields) :
    RoundTrip.Statement (.giftagFlg3 path t) := by
  intro nb h
  show decodeTag nb path (encodeTag _ t) = _
  unfold decodeTag
  rw [tagFlg_encodeTag, tagFields_encodeTag nb _ t h]
  rfl

theorem RoundTrip.pkPrim (prim : BitVec 11) :
    RoundTrip.Statement (.pkPrim prim) := by
  intro nb h
  simp (disch := omega) only [decode, encode, decodePacked, pkPrim_prim, extract_place_same]

theorem RoundTrip.pkRgbaq (r : BitVec 8) (g : BitVec 8) (b : BitVec 8) (a : BitVec 8) :
    RoundTrip.Statement (.pkRgbaq r g b a) := by
  intro nb h
  simp (disch := omega) only [decode, encode, decodePacked, pkRgbaq_r, pkRgbaq_g, pkRgbaq_b,
    pkRgbaq_a, extract_place_same, extract_or, extract_place_apart, BitVec.zero_or,
    BitVec.or_zero]

theorem RoundTrip.pkSt (sc : BitVec 32) (tc : BitVec 32) (qc : BitVec 32) :
    RoundTrip.Statement (.pkSt sc tc qc) := by
  intro nb h
  simp (disch := omega) only [decode, encode, decodePacked, pkSt_sc, pkSt_tc, pkSt_qc,
    extract_place_same, extract_or, extract_place_apart, BitVec.zero_or, BitVec.or_zero]

theorem RoundTrip.pkUv (uc : BitVec 14) (vc : BitVec 14) :
    RoundTrip.Statement (.pkUv uc vc) := by
  intro nb h
  simp (disch := omega) only [decode, encode, decodePacked, pkUv_uc, pkUv_vc, extract_place_same,
    extract_or, extract_place_apart, BitVec.zero_or, BitVec.or_zero]

theorem RoundTrip.pkXyzf2 (x : BitVec 16) (y : BitVec 16) (z : BitVec 24) (f : BitVec 8) (adc : Bool) :
    RoundTrip.Statement (.pkXyzf2 x y z f adc) := by
  intro nb h
  simp (disch := omega) only [decode, encode, decodePacked, pkXyzf2_x, pkXyzf2_y, pkXyzf2_z,
    pkXyzf2_f, pkXyzf2_adc, extract_place_same, extract_or, extract_place_apart, BitVec.zero_or,
    BitVec.or_zero, bitAt_or, bitAt_place_same, bitAt_place_apart, Bool.false_or]

theorem RoundTrip.pkXyz2 (x : BitVec 16) (y : BitVec 16) (z : BitVec 32) (adc : Bool) :
    RoundTrip.Statement (.pkXyz2 x y z adc) := by
  intro nb h
  simp (disch := omega) only [decode, encode, decodePacked, pkXyz2_x, pkXyz2_y, pkXyz2_z,
    pkXyz2_adc, extract_place_same, extract_or, extract_place_apart, BitVec.zero_or,
    BitVec.or_zero, bitAt_or, bitAt_place_same, bitAt_place_apart, Bool.false_or]

theorem RoundTrip.pkTex0_1 (v : BitVec 64) :
    RoundTrip.Statement (.pkTex0_1 v) := by
  intro nb h
  simp (disch := omega) only [decode, encode, decodePacked, pkTex0_1_v, extract_place_same]

theorem RoundTrip.pkTex0_2 (v : BitVec 64) :
    RoundTrip.Statement (.pkTex0_2 v) := by
  intro nb h
  simp (disch := omega) only [decode, encode, decodePacked, pkTex0_2_v, extract_place_same]

theorem RoundTrip.pkClamp_1 (v : BitVec 64) :
    RoundTrip.Statement (.pkClamp_1 v) := by
  intro nb h
  simp (disch := omega) only [decode, encode, decodePacked, pkClamp_1_v, extract_place_same]

theorem RoundTrip.pkClamp_2 (v : BitVec 64) :
    RoundTrip.Statement (.pkClamp_2 v) := by
  intro nb h
  simp (disch := omega) only [decode, encode, decodePacked, pkClamp_2_v, extract_place_same]

theorem RoundTrip.pkFog (f : BitVec 8) :
    RoundTrip.Statement (.pkFog f) := by
  intro nb h
  simp (disch := omega) only [decode, encode, decodePacked, pkFog_f, extract_place_same]

theorem RoundTrip.pkReservedB : RoundTrip.Statement .pkReservedB := by
  intro nb h; rfl

theorem RoundTrip.pkXyzf3 (x : BitVec 16) (y : BitVec 16) (z : BitVec 24) (f : BitVec 8) (adc : Bool) :
    RoundTrip.Statement (.pkXyzf3 x y z f adc) := by
  intro nb h
  simp (disch := omega) only [decode, encode, decodePacked, pkXyzf3_x, pkXyzf3_y, pkXyzf3_z,
    pkXyzf3_f, pkXyzf3_adc, extract_place_same, extract_or, extract_place_apart, BitVec.zero_or,
    BitVec.or_zero, bitAt_or, bitAt_place_same, bitAt_place_apart, Bool.false_or]

theorem RoundTrip.pkXyz3 (x : BitVec 16) (y : BitVec 16) (z : BitVec 32) (adc : Bool) :
    RoundTrip.Statement (.pkXyz3 x y z adc) := by
  intro nb h
  simp (disch := omega) only [decode, encode, decodePacked, pkXyz3_x, pkXyz3_y, pkXyz3_z,
    pkXyz3_adc, extract_place_same, extract_or, extract_place_apart, BitVec.zero_or,
    BitVec.or_zero, bitAt_or, bitAt_place_same, bitAt_place_apart, Bool.false_or]

theorem RoundTrip.pkAD (addr : BitVec 8) (v : BitVec 64) :
    RoundTrip.Statement (.pkAD addr v) := by
  intro nb h
  simp (disch := omega) only [decode, encode, decodePacked, pkAD_addr, pkAD_v, extract_place_same,
    extract_or, extract_place_apart, BitVec.zero_or, BitVec.or_zero]

theorem RoundTrip.pkNop : RoundTrip.Statement .pkNop := by
  intro nb h; rfl

theorem RoundTrip.prim (v : Word64) :
    RoundTrip.Statement (.prim v) := by
  intro nb _; exact decodeReg_id .prim .ad v

theorem RoundTrip.rgbaq (v : Word64) :
    RoundTrip.Statement (.rgbaq v) := by
  intro nb _; exact decodeReg_id .rgbaq .ad v

theorem RoundTrip.st (v : Word64) :
    RoundTrip.Statement (.st v) := by
  intro nb _; exact decodeReg_id .st .ad v

theorem RoundTrip.uv (v : Word64) :
    RoundTrip.Statement (.uv v) := by
  intro nb _; exact decodeReg_id .uv .ad v

theorem RoundTrip.xyzf2 (v : Word64) :
    RoundTrip.Statement (.xyzf2 v) := by
  intro nb _; exact decodeReg_id .xyzf2 .ad v

theorem RoundTrip.xyz2 (v : Word64) :
    RoundTrip.Statement (.xyz2 v) := by
  intro nb _; exact decodeReg_id .xyz2 .ad v

theorem RoundTrip.tex0_1 (v : Word64) :
    RoundTrip.Statement (.tex0_1 v) := by
  intro nb _; exact decodeReg_id .tex0_1 .ad v

theorem RoundTrip.tex0_2 (v : Word64) :
    RoundTrip.Statement (.tex0_2 v) := by
  intro nb _; exact decodeReg_id .tex0_2 .ad v

theorem RoundTrip.clamp_1 (v : Word64) :
    RoundTrip.Statement (.clamp_1 v) := by
  intro nb _; exact decodeReg_id .clamp_1 .ad v

theorem RoundTrip.clamp_2 (v : Word64) :
    RoundTrip.Statement (.clamp_2 v) := by
  intro nb _; exact decodeReg_id .clamp_2 .ad v

theorem RoundTrip.fog (v : Word64) :
    RoundTrip.Statement (.fog v) := by
  intro nb _; exact decodeReg_id .fog .ad v

theorem RoundTrip.xyzf3 (v : Word64) :
    RoundTrip.Statement (.xyzf3 v) := by
  intro nb _; exact decodeReg_id .xyzf3 .ad v

theorem RoundTrip.xyz3 (v : Word64) :
    RoundTrip.Statement (.xyz3 v) := by
  intro nb _; exact decodeReg_id .xyz3 .ad v

theorem RoundTrip.tex1_1 (v : Word64) :
    RoundTrip.Statement (.tex1_1 v) := by
  intro nb _; exact decodeReg_id .tex1_1 .ad v

theorem RoundTrip.tex1_2 (v : Word64) :
    RoundTrip.Statement (.tex1_2 v) := by
  intro nb _; exact decodeReg_id .tex1_2 .ad v

theorem RoundTrip.tex2_1 (v : Word64) :
    RoundTrip.Statement (.tex2_1 v) := by
  intro nb _; exact decodeReg_id .tex2_1 .ad v

theorem RoundTrip.tex2_2 (v : Word64) :
    RoundTrip.Statement (.tex2_2 v) := by
  intro nb _; exact decodeReg_id .tex2_2 .ad v

theorem RoundTrip.xyoffset_1 (v : Word64) :
    RoundTrip.Statement (.xyoffset_1 v) := by
  intro nb _; exact decodeReg_id .xyoffset_1 .ad v

theorem RoundTrip.xyoffset_2 (v : Word64) :
    RoundTrip.Statement (.xyoffset_2 v) := by
  intro nb _; exact decodeReg_id .xyoffset_2 .ad v

theorem RoundTrip.prmodecont (v : Word64) :
    RoundTrip.Statement (.prmodecont v) := by
  intro nb _; exact decodeReg_id .prmodecont .ad v

theorem RoundTrip.prmode (v : Word64) :
    RoundTrip.Statement (.prmode v) := by
  intro nb _; exact decodeReg_id .prmode .ad v

theorem RoundTrip.texclut (v : Word64) :
    RoundTrip.Statement (.texclut v) := by
  intro nb _; exact decodeReg_id .texclut .ad v

theorem RoundTrip.scanmsk (v : Word64) :
    RoundTrip.Statement (.scanmsk v) := by
  intro nb _; exact decodeReg_id .scanmsk .ad v

theorem RoundTrip.miptbp1_1 (v : Word64) :
    RoundTrip.Statement (.miptbp1_1 v) := by
  intro nb _; exact decodeReg_id .miptbp1_1 .ad v

theorem RoundTrip.miptbp1_2 (v : Word64) :
    RoundTrip.Statement (.miptbp1_2 v) := by
  intro nb _; exact decodeReg_id .miptbp1_2 .ad v

theorem RoundTrip.miptbp2_1 (v : Word64) :
    RoundTrip.Statement (.miptbp2_1 v) := by
  intro nb _; exact decodeReg_id .miptbp2_1 .ad v

theorem RoundTrip.miptbp2_2 (v : Word64) :
    RoundTrip.Statement (.miptbp2_2 v) := by
  intro nb _; exact decodeReg_id .miptbp2_2 .ad v

theorem RoundTrip.texa (v : Word64) :
    RoundTrip.Statement (.texa v) := by
  intro nb _; exact decodeReg_id .texa .ad v

theorem RoundTrip.fogcol (v : Word64) :
    RoundTrip.Statement (.fogcol v) := by
  intro nb _; exact decodeReg_id .fogcol .ad v

theorem RoundTrip.texflush (v : Word64) :
    RoundTrip.Statement (.texflush v) := by
  intro nb _; exact decodeReg_id .texflush .ad v

theorem RoundTrip.scissor_1 (v : Word64) :
    RoundTrip.Statement (.scissor_1 v) := by
  intro nb _; exact decodeReg_id .scissor_1 .ad v

theorem RoundTrip.scissor_2 (v : Word64) :
    RoundTrip.Statement (.scissor_2 v) := by
  intro nb _; exact decodeReg_id .scissor_2 .ad v

theorem RoundTrip.alpha_1 (v : Word64) :
    RoundTrip.Statement (.alpha_1 v) := by
  intro nb _; exact decodeReg_id .alpha_1 .ad v

theorem RoundTrip.alpha_2 (v : Word64) :
    RoundTrip.Statement (.alpha_2 v) := by
  intro nb _; exact decodeReg_id .alpha_2 .ad v

theorem RoundTrip.dimx (v : Word64) :
    RoundTrip.Statement (.dimx v) := by
  intro nb _; exact decodeReg_id .dimx .ad v

theorem RoundTrip.dthe (v : Word64) :
    RoundTrip.Statement (.dthe v) := by
  intro nb _; exact decodeReg_id .dthe .ad v

theorem RoundTrip.colclamp (v : Word64) :
    RoundTrip.Statement (.colclamp v) := by
  intro nb _; exact decodeReg_id .colclamp .ad v

theorem RoundTrip.test_1 (v : Word64) :
    RoundTrip.Statement (.test_1 v) := by
  intro nb _; exact decodeReg_id .test_1 .ad v

theorem RoundTrip.test_2 (v : Word64) :
    RoundTrip.Statement (.test_2 v) := by
  intro nb _; exact decodeReg_id .test_2 .ad v

theorem RoundTrip.pabe (v : Word64) :
    RoundTrip.Statement (.pabe v) := by
  intro nb _; exact decodeReg_id .pabe .ad v

theorem RoundTrip.fba_1 (v : Word64) :
    RoundTrip.Statement (.fba_1 v) := by
  intro nb _; exact decodeReg_id .fba_1 .ad v

theorem RoundTrip.fba_2 (v : Word64) :
    RoundTrip.Statement (.fba_2 v) := by
  intro nb _; exact decodeReg_id .fba_2 .ad v

theorem RoundTrip.frame_1 (v : Word64) :
    RoundTrip.Statement (.frame_1 v) := by
  intro nb _; exact decodeReg_id .frame_1 .ad v

theorem RoundTrip.frame_2 (v : Word64) :
    RoundTrip.Statement (.frame_2 v) := by
  intro nb _; exact decodeReg_id .frame_2 .ad v

theorem RoundTrip.zbuf_1 (v : Word64) :
    RoundTrip.Statement (.zbuf_1 v) := by
  intro nb _; exact decodeReg_id .zbuf_1 .ad v

theorem RoundTrip.zbuf_2 (v : Word64) :
    RoundTrip.Statement (.zbuf_2 v) := by
  intro nb _; exact decodeReg_id .zbuf_2 .ad v

theorem RoundTrip.bitbltbuf (v : Word64) :
    RoundTrip.Statement (.bitbltbuf v) := by
  intro nb _; exact decodeReg_id .bitbltbuf .ad v

theorem RoundTrip.trxpos (v : Word64) :
    RoundTrip.Statement (.trxpos v) := by
  intro nb _; exact decodeReg_id .trxpos .ad v

theorem RoundTrip.trxreg (v : Word64) :
    RoundTrip.Statement (.trxreg v) := by
  intro nb _; exact decodeReg_id .trxreg .ad v

theorem RoundTrip.trxdir (v : Word64) :
    RoundTrip.Statement (.trxdir v) := by
  intro nb _; exact decodeReg_id .trxdir .ad v

theorem RoundTrip.hwreg (v : Word64) :
    RoundTrip.Statement (.hwreg v) := by
  intro nb _; exact decodeReg_id .hwreg .ad v

theorem RoundTrip.signal (v : Word64) :
    RoundTrip.Statement (.signal v) := by
  intro nb _; exact decodeReg_id .signal .ad v

theorem RoundTrip.finish (v : Word64) :
    RoundTrip.Statement (.finish v) := by
  intro nb _; exact decodeReg_id .finish .ad v

theorem RoundTrip.label (v : Word64) :
    RoundTrip.Statement (.label v) := by
  intro nb _; exact decodeReg_id .label .ad v

theorem RoundTrip.unmappedId (src : Src) (id : BitVec 8) (v : Word64) :
    RoundTrip.Statement (.unmappedId src id v) := by
  intro nb h
  have h' : GReg.ofId id = none := by simpa [Instr.wellFormed] using h
  simp only [decode, encode, decodeReg, h']

theorem RoundTrip.rlPrim (v : Word64) :
    RoundTrip.Statement (.rlPrim v) := by
  intro nb _; rfl

theorem RoundTrip.rlRgbaq (v : Word64) :
    RoundTrip.Statement (.rlRgbaq v) := by
  intro nb _; rfl

theorem RoundTrip.rlSt (v : Word64) :
    RoundTrip.Statement (.rlSt v) := by
  intro nb _; rfl

theorem RoundTrip.rlUv (v : Word64) :
    RoundTrip.Statement (.rlUv v) := by
  intro nb _; rfl

theorem RoundTrip.rlXyzf2 (v : Word64) :
    RoundTrip.Statement (.rlXyzf2 v) := by
  intro nb _; rfl

theorem RoundTrip.rlXyz2 (v : Word64) :
    RoundTrip.Statement (.rlXyz2 v) := by
  intro nb _; rfl

theorem RoundTrip.rlTex0_1 (v : Word64) :
    RoundTrip.Statement (.rlTex0_1 v) := by
  intro nb _; rfl

theorem RoundTrip.rlTex0_2 (v : Word64) :
    RoundTrip.Statement (.rlTex0_2 v) := by
  intro nb _; rfl

theorem RoundTrip.rlClamp_1 (v : Word64) :
    RoundTrip.Statement (.rlClamp_1 v) := by
  intro nb _; rfl

theorem RoundTrip.rlClamp_2 (v : Word64) :
    RoundTrip.Statement (.rlClamp_2 v) := by
  intro nb _; rfl

theorem RoundTrip.rlFog (v : Word64) :
    RoundTrip.Statement (.rlFog v) := by
  intro nb _; rfl

theorem RoundTrip.rlReservedB (v : Word64) :
    RoundTrip.Statement (.rlReservedB v) := by
  intro nb _; rfl

theorem RoundTrip.rlXyzf3 (v : Word64) :
    RoundTrip.Statement (.rlXyzf3 v) := by
  intro nb _; rfl

theorem RoundTrip.rlXyz3 (v : Word64) :
    RoundTrip.Statement (.rlXyz3 v) := by
  intro nb _; rfl

theorem RoundTrip.rlNoneE (v : Word64) :
    RoundTrip.Statement (.rlNoneE v) := by
  intro nb _; rfl

theorem RoundTrip.rlNoneF (v : Word64) :
    RoundTrip.Statement (.rlNoneF v) := by
  intro nb _; rfl

theorem RoundTrip.imageQword (q : Qword) :
    RoundTrip.Statement (.imageQword q) := by
  intro nb _; rfl

theorem RoundTrip.privPmode (acc : PrivAccess) :
    RoundTrip.Statement (.privPmode acc) := by
  intro nb _; exact decodePriv_encodePriv nb .pmode acc

theorem RoundTrip.privSmode1 (acc : PrivAccess) :
    RoundTrip.Statement (.privSmode1 acc) := by
  intro nb _; exact decodePriv_encodePriv nb .smode1 acc

theorem RoundTrip.privSmode2 (acc : PrivAccess) :
    RoundTrip.Statement (.privSmode2 acc) := by
  intro nb _; exact decodePriv_encodePriv nb .smode2 acc

theorem RoundTrip.privSrfsh (acc : PrivAccess) :
    RoundTrip.Statement (.privSrfsh acc) := by
  intro nb _; exact decodePriv_encodePriv nb .srfsh acc

theorem RoundTrip.privSynch1 (acc : PrivAccess) :
    RoundTrip.Statement (.privSynch1 acc) := by
  intro nb _; exact decodePriv_encodePriv nb .synch1 acc

theorem RoundTrip.privSynch2 (acc : PrivAccess) :
    RoundTrip.Statement (.privSynch2 acc) := by
  intro nb _; exact decodePriv_encodePriv nb .synch2 acc

theorem RoundTrip.privSyncv (acc : PrivAccess) :
    RoundTrip.Statement (.privSyncv acc) := by
  intro nb _; exact decodePriv_encodePriv nb .syncv acc

theorem RoundTrip.privDispfb1 (acc : PrivAccess) :
    RoundTrip.Statement (.privDispfb1 acc) := by
  intro nb _; exact decodePriv_encodePriv nb .dispfb1 acc

theorem RoundTrip.privDisplay1 (acc : PrivAccess) :
    RoundTrip.Statement (.privDisplay1 acc) := by
  intro nb _; exact decodePriv_encodePriv nb .display1 acc

theorem RoundTrip.privDispfb2 (acc : PrivAccess) :
    RoundTrip.Statement (.privDispfb2 acc) := by
  intro nb _; exact decodePriv_encodePriv nb .dispfb2 acc

theorem RoundTrip.privDisplay2 (acc : PrivAccess) :
    RoundTrip.Statement (.privDisplay2 acc) := by
  intro nb _; exact decodePriv_encodePriv nb .display2 acc

theorem RoundTrip.privExtbuf (acc : PrivAccess) :
    RoundTrip.Statement (.privExtbuf acc) := by
  intro nb _; exact decodePriv_encodePriv nb .extbuf acc

theorem RoundTrip.privExtdata (acc : PrivAccess) :
    RoundTrip.Statement (.privExtdata acc) := by
  intro nb _; exact decodePriv_encodePriv nb .extdata acc

theorem RoundTrip.privExtwrite (acc : PrivAccess) :
    RoundTrip.Statement (.privExtwrite acc) := by
  intro nb _; exact decodePriv_encodePriv nb .extwrite acc

theorem RoundTrip.privBgcolor (acc : PrivAccess) :
    RoundTrip.Statement (.privBgcolor acc) := by
  intro nb _; exact decodePriv_encodePriv nb .bgcolor acc

theorem RoundTrip.privCsr (acc : PrivAccess) :
    RoundTrip.Statement (.privCsr acc) := by
  intro nb _; exact decodePriv_encodePriv nb .csr acc

theorem RoundTrip.privImr (acc : PrivAccess) :
    RoundTrip.Statement (.privImr acc) := by
  intro nb _; exact decodePriv_encodePriv nb .imr acc

theorem RoundTrip.privBusdir (acc : PrivAccess) :
    RoundTrip.Statement (.privBusdir acc) := by
  intro nb _; exact decodePriv_encodePriv nb .busdir acc

theorem RoundTrip.privSiglblid (acc : PrivAccess) :
    RoundTrip.Statement (.privSiglblid acc) := by
  intro nb _; exact decodePriv_encodePriv nb .siglblid acc

theorem RoundTrip.privUnmapped (op : HostOp) (addr : Word32) :
    RoundTrip.Statement (.privUnmapped op addr) := by
  intro nb h
  have h' : isUnmappedAccess op addr = true := h
  simp only [decode, encode, decodePriv]
  unfold isUnmappedAccess at h'
  rcases hd : privDecode addr with _ | ⟨r, part⟩ <;> rw [hd] at h' <;> cases op <;>
    simp only [Bool.false_eq_true] at h' ⊢
  cases part <;> simp_all

theorem RoundTrip.hostFeedGif (q : Qword) :
    RoundTrip.Statement (.hostFeedGif q) := by
  intro nb _; rfl

theorem RoundTrip.hostSendPath3 (q : Qword) :
    RoundTrip.Statement (.hostSendPath3 q) := by
  intro nb _; rfl

theorem RoundTrip.hostEndOfStream (path : Path) :
    RoundTrip.Statement (.hostEndOfStream path) := by
  intro nb _; rfl

theorem RoundTrip.hostWrite64 (addr : Word32) (v : Word64) :
    RoundTrip.Statement (.hostWrite64 addr v) := by
  intro nb _; rfl

theorem RoundTrip.hostWrite32 (addr : Word32) (v : Word32) :
    RoundTrip.Statement (.hostWrite32 addr v) := by
  intro nb _; rfl

theorem RoundTrip.hostRead32 (addr : Word32) :
    RoundTrip.Statement (.hostRead32 addr) := by
  intro nb _; rfl

theorem RoundTrip.hostReadHwreg : RoundTrip.Statement .hostReadHwreg := by
  intro nb _; rfl

theorem RoundTrip.hostVideoEvent (kind : VideoEvent) :
    RoundTrip.Statement (.hostVideoEvent kind) := by
  intro nb _; rfl

theorem RoundTrip.hostReset : RoundTrip.Statement .hostReset := by
  intro nb _; rfl

theorem RoundTrip.hostGetDisplayResolution : RoundTrip.Statement .hostGetDisplayResolution := by
  intro nb _; rfl

theorem RoundTrip.hostGetInternalResolution : RoundTrip.Statement .hostGetInternalResolution := by
  intro nb _; rfl

theorem RoundTrip.hostGetFramebuffer : RoundTrip.Statement .hostGetFramebuffer := by
  intro nb _; rfl

end Sys2Proof.Laws
end

