-- ==== Sys2Proof/Tests/Slice0.lean ====
section
/-! SUPPORT. The tests of the model: the smoke test of WellFormed, words written out from the
encodings of 30_encoding.md, single steps with the values of the examples and vectors of spec/, and,
for every obligation with hypotheses, a witness that meets them. Expected values come from the file
or vector that a comment names. -/

namespace Sys2Proof.Tests

open Sys2Proof.Machine Sys2Proof.Claims

-- One theorem at a time: the tests wait for the kernel, and each that waits holds a thread.
set_option Elab.async false

/-! ## WellFormed: an ill-formed term for each check -/

/-- A tag of one empty loop of descriptors, with a given NLOOP. -/
def tagOf (nloop : BitVec 15) : TagFields :=
  { nloop := nloop, eop := true, pre := false, prim := 0, nreg := 1, regs := 0 }

/-- NLOOP = 0x4000 does not fit in 14 bits (W9). -/
theorem test_nloop_too_wide :
    (Instr.giftagPacked .feed (tagOf 0x4000)).wellFormed .bits14 = false ∧
    (Instr.giftagReglist .feed (tagOf 0x4000)).wellFormed .bits14 = false ∧
    (Instr.giftagImage .feed (tagOf 0x4000)).wellFormed .bits14 = false ∧
    (Instr.giftagFlg3 .feed (tagOf 0x4000)).wellFormed .bits14 = false ∧
    (Instr.giftagPacked .feed (tagOf 0x4000)).wellFormed .bits15 = true ∧
    (Instr.giftagPacked .feed (tagOf 0x3FFF)).wellFormed .bits14 = true := by decide +kernel

/-- An UNMAPPED_ID of FRAME_1's id, and one of an id without a mapping. -/
theorem test_unmapped_id_of_a_register :
    (Instr.unmappedId .ad 0x4C 0).wellFormed .bits15 = false ∧
    (Instr.unmappedId .ad 0x0B 0).wellFormed .bits15 = true := by decide +kernel

/-- A PRIV_UNMAPPED of an access that reaches a register: any width at a base, 32 bits at base + 4,
`write64` of a general register; and of accesses that reach none (R431). -/
theorem test_unmapped_access_of_a_register :
    (Instr.privUnmapped .w64 0x12001000).wellFormed .bits15 = false ∧
    (Instr.privUnmapped .w32 0x12001004).wellFormed .bits15 = false ∧
    (Instr.privUnmapped .r32 0x12001004).wellFormed .bits15 = false ∧
    (Instr.privUnmapped .w64 0xFF).wellFormed .bits15 = false ∧
    (Instr.privUnmapped .w64 0x12001004).wellFormed .bits15 = true ∧
    (Instr.privUnmapped .w64 0x100).wellFormed .bits15 = true ∧
    (Instr.privUnmapped .w32 0x4C).wellFormed .bits15 = true := by decide +kernel

/-! ## Words -/

/-- The four tags: VG1, VG3, VG4 and VG5 of 95_test_vectors.md. -/
theorem test_decode_tags :
    decode .bits15 (.tag .feed 0x00000000000000512000000000008003) = .giftagPacked .feed
      { nloop := 3, eop := true, pre := false, prim := 0, nreg := 2, regs := 0x51 } ∧
    decode .bits15 (.tag .path3 0x00000000000005503400000000008002) = .giftagReglist .path3
      { nloop := 2, eop := true, pre := false, prim := 0, nreg := 3, regs := 0x550 } ∧
    decode .bits15 (.tag .feed 0x00000000000000000800000000008004) = .giftagImage .feed
      { nloop := 4, eop := true, pre := false, prim := 0, nreg := 0, regs := 0 } ∧
    decode .bits15 (.tag .feed 0x00000000000000000C00000000008001) = .giftagFlg3 .feed
      { nloop := 1, eop := true, pre := false, prim := 0, nreg := 0, regs := 0 } := by
  decide +kernel

/-- PRE and PRIM (VG7), and the two widths of NLOOP (W9). -/
theorem test_decode_tag_fields :
    decode .bits15 (.tag .feed 0x000000000000000F1105C00000000001) = .giftagPacked .feed
      { nloop := 1, eop := false, pre := true, prim := 0x20B, nreg := 1, regs := 0xF } ∧
    decode .bits15 (.tag .feed 0x000000000000000F100000000000C001) = .giftagPacked .feed
      { nloop := 0x4001, eop := true, pre := false, prim := 0, nreg := 1, regs := 0xF } ∧
    decode .bits14 (.tag .feed 0x000000000000000F100000000000C001) = .giftagPacked .feed
      { nloop := 1, eop := true, pre := false, prim := 0, nreg := 1, regs := 0xF } := by
  decide +kernel

/-- The sixteen PACKED descriptors with the payload qwords of VK0 to VKF. -/
def packedWords : List (BitVec 4 × Qword × Instr) :=
  [(0x0#4, 0x00000000000000000004000000000003#128, Instr.pkPrim 3),
   (0x1#4, 0x00000010000000200000004000000180#128, Instr.pkRgbaq 0x80 0x40 0x20 0x10),
   (0x2#4, 0x12345678400000003E8000003F000000#128, Instr.pkSt 0x3F000000 0x3E800000 0x40000000),
   (0x3#4, 0x00000000000000000000FFFF0000FFFF#128, Instr.pkUv 0x3FFF 0x3FFF),
   (0x4#4, 0x000005A00ABCDEFF0000567800001234#128, Instr.pkXyzf2 0x1234 0x5678 0xABCDEF 0x5A false),
   (0x4#4, 0x000085A00ABCDEF00000567800001234#128, Instr.pkXyzf2 0x1234 0x5678 0xABCDEF 0x5A true),
   (0x5#4, 0x00000000FFFFFFFF0000002000000010#128, Instr.pkXyz2 0x10 0x20 0xFFFFFFFF false),
   (0x5#4, 0x00008000FFFFFFFF0000002000000010#128, Instr.pkXyz2 0x10 0x20 0xFFFFFFFF true),
   (0x6#4, 0x000000000000FFFF0000000000000140#128, Instr.pkTex0_1 0x140)] ++
  [(0x7#4, 0x00000000000000000000000000000001#128, Instr.pkTex0_2 1),
   (0x8#4, 0x00000000000000000000000000000005#128, Instr.pkClamp_1 5),
   (0x9#4, 0x00000000000000000000000000000000#128, Instr.pkClamp_2 0),
   (0xA#4, 0x00000AB000000000000000000000FFFF#128, Instr.pkFog 0xAB),
   (0xB#4, 0x00000000000000000000000000000007#128, Instr.pkReservedB),
   (0xC#4, 0x00000040000000300000000200000001#128, Instr.pkXyzf3 1 2 3 4 false),
   (0xD#4, 0x00000000000000010000001000000010#128, Instr.pkXyz3 0x10 0x10 1 false),
   (0xE#4, 0x000000000000FF4C0000000000000005#128, Instr.pkAD 0x4C 5),
   (0xF#4, 0xFFFFFFFFFFFFFFFFFFFFFFFFFFFFFFFF#128, Instr.pkNop)]

theorem test_decode_packed :
    ∀ p ∈ packedWords, decode .bits15 (.packed p.1 p.2.1) = p.2.2 := by decide +kernel

/-- The sixteen REGLIST slots by descriptor (40_gif_decoder.md R218). -/
def slotRows : List (Word64 → Instr) :=
  [.rlPrim, .rlRgbaq, .rlSt, .rlUv, .rlXyzf2, .rlXyz2, .rlTex0_1, .rlTex0_2, .rlClamp_1, .rlClamp_2,
   .rlFog, .rlReservedB, .rlXyzf3, .rlXyz3, .rlNoneE, .rlNoneF]

theorem test_decode_slots :
    (List.range 16).map (fun d => decode .bits15 (.slot (BitVec.ofNat 4 d) 0x3F800000FF0000FF)) =
      slotRows.map (fun r => r 0x3F800000FF0000FF) := by decide +kernel

/-- The general register ids of 30_encoding.md R161. -/
def idRows : List (BitVec 8 × (Word64 → Instr)) :=
  [(0x00#8, Instr.prim), (0x01#8, Instr.rgbaq), (0x02#8, Instr.st), (0x03#8, Instr.uv)] ++
  [(0x04#8, Instr.xyzf2), (0x05#8, Instr.xyz2), (0x06#8, Instr.tex0_1), (0x07#8, Instr.tex0_2)] ++
  [(0x08#8, Instr.clamp_1), (0x09#8, Instr.clamp_2), (0x0A#8, Instr.fog), (0x0C#8, Instr.xyzf3)] ++
  [(0x0D#8, Instr.xyz3), (0x14#8, Instr.tex1_1), (0x15#8, Instr.tex1_2), (0x16#8, Instr.tex2_1)] ++
  [(0x17#8, Instr.tex2_2), (0x18#8, Instr.xyoffset_1), (0x19#8, Instr.xyoffset_2), (0x1A#8, Instr.prmodecont)] ++
  [(0x1B#8, Instr.prmode), (0x1C#8, Instr.texclut), (0x22#8, Instr.scanmsk), (0x34#8, Instr.miptbp1_1)] ++
  [(0x35#8, Instr.miptbp1_2), (0x36#8, Instr.miptbp2_1), (0x37#8, Instr.miptbp2_2), (0x3B#8, Instr.texa)] ++
  [(0x3D#8, Instr.fogcol), (0x3F#8, Instr.texflush), (0x40#8, Instr.scissor_1), (0x41#8, Instr.scissor_2)] ++
  [(0x42#8, Instr.alpha_1), (0x43#8, Instr.alpha_2), (0x44#8, Instr.dimx), (0x45#8, Instr.dthe)] ++
  [(0x46#8, Instr.colclamp), (0x47#8, Instr.test_1), (0x48#8, Instr.test_2), (0x49#8, Instr.pabe)] ++
  [(0x4A#8, Instr.fba_1), (0x4B#8, Instr.fba_2), (0x4C#8, Instr.frame_1), (0x4D#8, Instr.frame_2)] ++
  [(0x4E#8, Instr.zbuf_1), (0x4F#8, Instr.zbuf_2), (0x50#8, Instr.bitbltbuf), (0x51#8, Instr.trxpos)] ++
  [(0x52#8, Instr.trxreg), (0x53#8, Instr.trxdir), (0x54#8, Instr.hwreg), (0x60#8, Instr.signal)] ++
  [(0x61#8, Instr.finish), (0x62#8, Instr.label)]

theorem test_decode_ids :
    ∀ p ∈ idRows, decode .bits15 (.reg .reglist p.1 0x0123456789ABCDEF) = p.2 0x0123456789ABCDEF := by
  decide +kernel

/-- Ids without a mapping (VX16). -/
theorem test_decode_unmapped_ids :
    ∀ id ∈ ([0x0B, 0x0E, 0x0F, 0x10, 0x1D, 0x3E, 0x55, 0x5F, 0x63, 0xFF] : List (BitVec 8)),
      decode .bits15 (.reg .ad id 5) = .unmappedId .ad id 5 := by decide +kernel

/-- An IMAGE payload qword. -/
theorem test_decode_image :
    decode .bits15 (.image 0x000000A2000000C1000000B1000000A1) =
      .imageQword 0x000000A2000000C1000000B1000000A1 := by decide +kernel

/-- The privileged addresses of 30_encoding.md R170. -/
def privRows : List (Word32 × (PrivAccess → Instr)) :=
  [(0x12000000#32, Instr.privPmode), (0x12000010#32, Instr.privSmode1), (0x12000020#32, Instr.privSmode2), (0x12000030#32, Instr.privSrfsh)] ++
  [(0x12000040#32, Instr.privSynch1), (0x12000050#32, Instr.privSynch2), (0x12000060#32, Instr.privSyncv), (0x12000070#32, Instr.privDispfb1)] ++
  [(0x12000080#32, Instr.privDisplay1), (0x12000090#32, Instr.privDispfb2), (0x120000A0#32, Instr.privDisplay2), (0x120000B0#32, Instr.privExtbuf)] ++
  [(0x120000C0#32, Instr.privExtdata), (0x120000D0#32, Instr.privExtwrite), (0x120000E0#32, Instr.privBgcolor), (0x12001000#32, Instr.privCsr)] ++
  [(0x12001010#32, Instr.privImr), (0x12001040#32, Instr.privBusdir), (0x12001080#32, Instr.privSiglblid)]

theorem test_decode_priv :
    ∀ p ∈ privRows,
      decode .bits15 (.priv .w64 p.1 7) = p.2 (.write64 7) ∧
      decode .bits15 (.priv .w32 p.1 7) = p.2 (.write32 .low 7) ∧
      decode .bits15 (.priv .w32 (p.1 + 4) 7) = p.2 (.write32 .high 7) ∧
      decode .bits15 (.priv .r32 p.1 0) = p.2 (.read32 .low) ∧
      decode .bits15 (.priv .r32 (p.1 + 4) 0) = p.2 (.read32 .high) := by decide +kernel

/-- Accesses without a mapping (VH2, VH3, VH4, VH5, VH6). -/
theorem test_decode_priv_unmapped :
    decode .bits15 (.priv .r32 0x12000008 0) = .privUnmapped .r32 0x12000008 ∧
    decode .bits15 (.priv .r32 0x12000100 0) = .privUnmapped .r32 0x12000100 ∧
    decode .bits15 (.priv .r32 0x4C 0) = .privUnmapped .r32 0x4C ∧
    decode .bits15 (.priv .w64 0x12000004 1) = .privUnmapped .w64 0x12000004 ∧
    decode .bits15 (.priv .w32 0x4C 1) = .privUnmapped .w32 0x4C := by decide +kernel

/-- The twelve host calls by name (00_scope.md R7). -/
theorem test_decode_calls :
    [Call.feedGif 1, .sendPath3 2, .endOfStream .path3, .write64 3 4, .write32 5 6, .read32 7,
      .readHwreg, .videoEvent .hblank, .reset, .getDisplayResolution, .getInternalResolution,
      .getFramebuffer].map (fun c => decode .bits15 (.call c)) =
    [.hostFeedGif 1, .hostSendPath3 2, .hostEndOfStream .path3, .hostWrite64 3 4, .hostWrite32 5 6,
      .hostRead32 7, .hostReadHwreg, .hostVideoEvent .hblank, .hostReset, .hostGetDisplayResolution,
      .hostGetInternalResolution, .hostGetFramebuffer] := by decide +kernel

/-- Words of the opcode table, by their widths (log entry 9); a number that does not fit, and a
width of no row, are refused. -/
theorem test_table_words :
    decodeTableWord 128 0x08000000000000000 = some (.giftagPacked .feed
      { nloop := 0, eop := false, pre := false, prim := 0, nreg := 8, regs := 0 }) ∧
    decodeTableWord 128 0x0800000000000000 = some (.giftagImage .feed
      { nloop := 0, eop := false, pre := false, prim := 0, nreg := 0, regs := 0 }) ∧
    decodeTableWord 8 0x4C = some (.frame_1 0) ∧
    decodeTableWord 8 0xE = some (.pkAD 0 0) ∧
    decodeTableWord 4 0x5 = some (.pkXyz2 0 0 0 false) ∧
    decodeTableWord 32 0x12001000 = some (.privCsr (.read32 .low)) ∧
    decodeTableWord 8 0x100 = none ∧ decodeTableWord 16 0 = none := by decide +kernel

/-! ## Tables of 20_memory.md -/

/-- The set of the numbers of a table, as the bits of a number. -/
def members (t : List (List Nat)) : Nat := t.flatten.foldl (fun m n => m ||| 1 <<< n) 0

/-- R106: each block table is a permutation of 0 to 31: 32 entries, each number among them. -/
theorem test_block_tables_are_permutations :
    ∀ t ∈ [tBT32, tBT16, tBT16S, tBTZ32, tBTZ16, tBTZ16S, tBT8, tBT4],
      t.flatten.length = 32 ∧ members t = 2 ^ 32 - 1 := by decide +kernel

/-- R106: the Z tables are the colour tables with each entry xor 0x18. -/
theorem test_z_tables :
    tBTZ32 = tBT32.map (fun r => r.map (fun n => n ^^^ 0x18)) ∧
    tBTZ16 = tBT16.map (fun r => r.map (fun n => n ^^^ 0x18)) ∧
    tBTZ16S = tBT16S.map (fun r => r.map (fun n => n ^^^ 0x18)) := by decide +kernel

/-- R107: each column table is a permutation of its range. -/
theorem test_column_tables_are_permutations :
    ∀ p ∈ [(tCT32, 64), (tCT16, 128), (tCT8, 256), (tCT4, 512)],
      p.1.flatten.length = p.2 ∧ members p.1 = 2 ^ p.2 - 1 := by decide +kernel

/-- R107: rows 8 to 15 of CT8 and of CT4 are rows 0 to 7 plus 128 and plus 256. -/
theorem test_lower_column_rows :
    tCT8.drop 8 = (tCT8.take 8).map (fun r => r.map (· + 128)) ∧
    tCT4.drop 8 = (tCT4.take 8).map (fun r => r.map (· + 256)) := by decide +kernel

/-- Locations of VM7, VM9, VM11, VM16, VM17, VM23, VM27, VM29, VM31, VM39, VM41, VM42, VM48 and VM50
to VM52: code, base, width, x, y and the word, lowest bit and width of the pixel. -/
def locations : List ((BitVec 6 × Nat × Nat × Nat × Nat) × PixelLoc) :=
  [((0x00#6, 0, 1, 63, 31), PixelLoc.mk 2047 0 32), ((0x00#6, 0, 1, 0, 32), PixelLoc.mk 2048 0 32),
   ((0x00#6, 0, 2, 0, 32), PixelLoc.mk 4096 0 32), ((0x30#6, 0, 1, 0, 8), PixelLoc.mk 1664 0 32),
   ((0x31#6, 0, 1, 8, 0), PixelLoc.mk 1600 0 24), ((0x02#6, 0, 1, 63, 63), PixelLoc.mk 2047 16 16),
   ((0x0A#6, 0, 1, 0, 16), PixelLoc.mk 512 0 16), ((0x32#6, 0, 1, 16, 0), PixelLoc.mk 1664 0 16)] ++
  [((0x3A#6, 0, 1, 16, 0), PixelLoc.mk 1664 0 16), ((0x13#6, 0, 2, 127, 63), PixelLoc.mk 2047 24 8),
   ((0x13#6, 0, 3, 0, 64), PixelLoc.mk 2048 0 8), ((0x13#6, 0, 1, 0, 64), PixelLoc.mk 0 0 8),
   ((0x14#6, 0, 2, 32, 0), PixelLoc.mk 128 0 4), ((0x1B#6, 0, 1, 1, 0), PixelLoc.mk 1 24 8),
   ((0x24#6, 0, 1, 1, 0), PixelLoc.mk 1 24 4), ((0x2C#6, 0, 1, 1, 0), PixelLoc.mk 1 28 4)]

/-- Whether a location is a given one. -/
def isAt (l : Except Err PixelLoc) (p : PixelLoc) : Bool :=
  match l with
  | .ok l => l == p
  | .error _ => false

theorem test_locations :
    ∀ p ∈ locations,
      isAt (locate Config.defaults p.1.1 p.1.2.1 p.1.2.2.1 p.1.2.2.2.1 p.1.2.2.2.2) p.2 = true := by
  decide +kernel

/-! ## Single steps -/

/-- The state after an instruction. -/
def after (i : Instr) (s : State) : State :=
  match exec i s with
  | .next t => t
  | .fault _ => s
  | .refused _ => s

/-- The state after one step. -/
def stepped (s : State) : State :=
  match step s with
  | .next t => t
  | .fault _ => s
  | .refused _ => s

/-- The state after one step that performs a host call. -/
def afterCall (c : Call) (s : State) : State := stepped { s with inbox := [c] }

/-- The state after reset with some general registers. -/
def withReg (f : RegFile) : State := { State.reset with reg := f }

/-- The state after reset with a word of VRAM. -/
def withWord (w : Nat) (v : Word32) : State := { State.reset with vram := writeWord [] w v }

/-- A queued vertex. -/
def vertexAt (x y : BitVec 16) : Vertex :=
  { x := x, y := y, z := 0, f := 0, r := 0, g := 0, b := 0, a := 0, q := 0, s := 0, t := 0, u := 0,
    v := 0 }

/-- The state after reset with PRIM = `p` and a queue. -/
def queued (p : Word64) (vq : List Vertex) : State :=
  { withReg { RegFile.reset with prim := p } with vq := vq }

/-- BITBLTBUF with both widths 1 and the given codes (10_state.md R42). -/
def bufOf (spsm dpsm : Word64) : Word64 :=
  0x0001000000010000 ||| spsm <<< 24 ||| dpsm <<< 56

/-- The state after reset with the registers of a transfer of `w` by `h` pixels from (0, 0). -/
def transferRegs (spsm dpsm : Word64) (w h : Word64) : State :=
  withReg { RegFile.reset with bitbltbuf := bufOf spsm dpsm, trxreg := w ||| h <<< 32 }

/-- That state with the transfer of direction XDIR armed. -/
def armed (xdir spsm dpsm : Word64) (w h : Word64) : State :=
  after (.trxdir xdir) (transferRegs spsm dpsm w h)

/-- VG1: the counters of a PACKED tag. -/
theorem test_tag_packed :
    (afterCall (.feedGif 0x00000000000000512000000000008003) State.reset).dec =
      { decState := .processing, packetOpen := true, packetPath := .feed,
        tag := { nloop := 3, eop := true, pre := false, prim := 0, flg := 0, nreg := 2,
                 regs := 0x51 },
        regCount := 2, regsLeft := 2, dataLeft := 6, packedQ := 0x3F800000 } := by decide +kernel

/-- VG3, VG4, VG5: units of a REGLIST, an IMAGE and a FLG 3 tag. -/
theorem test_tag_counters :
    (afterCall (.feedGif 0x00000000000005503400000000008002) State.reset).dec.dataLeft = 6 ∧
    (afterCall (.feedGif 0x00000000000000000800000000008004) State.reset).dec.dataLeft = 4 ∧
    (afterCall (.feedGif 0x00000000000000000800000000008004) State.reset).dec.regCount = 16 ∧
    (afterCall (.feedGif 0x00000000000000000C00000000008001) State.reset).dec.dataLeft = 1 := by
  decide +kernel

/-- VG6: a tag with NLOOP = 0 is exhausted at once, its PRE performed, its packet open. -/
theorem test_tag_without_payload :
    (afterCall (.sendPath3 0x00000000000000001001C00000000000) State.reset).reg.prim = 3 ∧
    (afterCall (.sendPath3 0x00000000000000001001C00000000000) State.reset).dec.decState =
      .awaitingTag ∧
    (afterCall (.sendPath3 0x00000000000000001001C00000000000) State.reset).dec.packetOpen = true ∧
    (afterCall (.sendPath3 0x00000000000000001001C00000000000) State.reset).dec.packetPath =
      .path3 := by decide +kernel

/-- VX25: a register that only stores holds all 64 bits; copies 2 by their own ids. -/
def storeRows : List ((Word64 → Instr) × (RegFile → Word64)) :=
  [(Instr.rgbaq, RegFile.rgbaq), (Instr.st, RegFile.st), (Instr.uv, RegFile.uv), (Instr.fog, RegFile.fog),
   (Instr.prmodecont, RegFile.prmodecont), (Instr.prmode, RegFile.prmode), (Instr.texclut, RegFile.texclut),
   (Instr.scanmsk, RegFile.scanmsk), (Instr.texa, RegFile.texa), (Instr.fogcol, RegFile.fogcol),
   (Instr.dimx, RegFile.dimx), (Instr.dthe, RegFile.dthe), (Instr.colclamp, RegFile.colclamp),
   (Instr.pabe, RegFile.pabe), (Instr.bitbltbuf, RegFile.bitbltbuf), (Instr.trxpos, RegFile.trxpos),
   (Instr.trxreg, RegFile.trxreg)] ++
  [(Instr.tex0_1, fun (f : RegFile) => f.tex0.c1), (Instr.tex0_2, fun (f : RegFile) => f.tex0.c2), (Instr.clamp_1, fun (f : RegFile) => f.clamp.c1),
   (Instr.clamp_2, fun (f : RegFile) => f.clamp.c2), (Instr.tex1_1, fun (f : RegFile) => f.tex1.c1), (Instr.tex1_2, fun (f : RegFile) => f.tex1.c2),
   (Instr.miptbp1_1, fun (f : RegFile) => f.miptbp1.c1), (Instr.miptbp1_2, fun (f : RegFile) => f.miptbp1.c2),
   (Instr.miptbp2_1, fun (f : RegFile) => f.miptbp2.c1), (Instr.miptbp2_2, fun (f : RegFile) => f.miptbp2.c2),
   (Instr.alpha_1, fun (f : RegFile) => f.alpha.c1), (Instr.alpha_2, fun (f : RegFile) => f.alpha.c2), (Instr.fba_1, fun (f : RegFile) => f.fba.c1),
   (Instr.fba_2, fun (f : RegFile) => f.fba.c2)]

theorem test_stores :
    ∀ p ∈ storeRows, p.2 (after (p.1 0xFEDCBA9876543211) State.reset).reg = 0xFEDCBA9876543211 := by
  decide +kernel

/-- The state after reset with context 2 active. -/
def context2 : State := withReg { RegFile.reset with prim := 0x200 }

/-- VX2, VX3: the context-routed registers go to the active copy, whichever id is written. -/
theorem test_context_routing :
    (after (.frame_1 0xA0000) context2).reg.frame = ⟨0, 0xA0000⟩ ∧
    (after (.frame_2 0x123) State.reset).reg.frame = ⟨0x123, 0⟩ ∧
    (after (.xyoffset_1 1) context2).reg.xyoffset = ⟨0, 1⟩ ∧
    (after (.xyoffset_2 1) State.reset).reg.xyoffset = ⟨1, 0⟩ ∧
    (after (.scissor_1 1) context2).reg.scissor = ⟨0, 1⟩ ∧
    (after (.scissor_2 1) State.reset).reg.scissor = ⟨1, 0⟩ ∧
    (after (.test_1 1) context2).reg.test = ⟨0, 1⟩ ∧
    (after (.test_2 1) State.reset).reg.test = ⟨1, 0⟩ ∧
    (after (.zbuf_1 1) context2).reg.zbuf = ⟨0, 1⟩ ∧
    (after (.zbuf_2 1) State.reset).reg.zbuf = ⟨1, 0⟩ := by decide +kernel

/-- VX4, VX5: the id's own copy under P_CTX_WRITE_BY_ADDRESS; the context of PRMODE when AC = 0. -/
theorem test_context_source :
    (after (.frame_2 0x123)
      { State.reset with cfg := { Config.defaults with ctxWriteByAddress := true } }).reg.frame =
        ⟨0, 0x123⟩ ∧
    (after (.scissor_1 0x01DF0000027F0000)
      (withReg { RegFile.reset with prmodecont := 0, prmode := 0x200 })).reg.scissor =
        ⟨0, 0x01DF0000027F0000⟩ := by decide +kernel

/-- VX8, VX9: TEX2 writes PSM and the CLUT fields of TEX0. -/
theorem test_tex2 :
    (after (.tex2_1 0xFEDCBA9876543210)
      (withReg { RegFile.reset with tex0 := ⟨0x0123456789ABCDEF, 7⟩ })).reg.tex0 =
        ⟨0xFEDCBA878A5BCDEF, 7⟩ ∧
    (after (.tex2_2 0x100000) State.reset).reg.tex0 = ⟨0, 0x100000⟩ := by decide +kernel

/-- VK1, VK2, VK3, VKA: values assembled from PACKED fields. -/
theorem test_packed_values :
    (after (.pkRgbaq 0x80 0x40 0x20 0x10) State.reset).reg.rgbaq = 0x3F80000010204080 ∧
    (after (.pkSt 0x3F000000 0x3E800000 0x40000000) State.reset).reg.st = 0x3E8000003F000000 ∧
    (after (.pkSt 0x3F000000 0x3E800000 0x40000000) State.reset).dec.packedQ = 0x40000000 ∧
    (after (.pkUv 0x3FFF 0x3FFF) State.reset).reg.uv = 0x3FFF3FFF ∧
    (after (.pkFog 0xAB) State.reset).reg.fog = 0xAB00000000000000 := by decide +kernel

/-- VK0, VK6 to VK9: the other stores of PACKED. -/
theorem test_packed_stores :
    (after (.pkPrim 3) State.reset).reg.prim = 3 ∧
    (after (.pkTex0_1 0x140) State.reset).reg.tex0 = ⟨0x140, 0⟩ ∧
    (after (.pkTex0_2 1) State.reset).reg.tex0 = ⟨0, 1⟩ ∧
    (after (.pkClamp_1 5) State.reset).reg.clamp = ⟨5, 0⟩ ∧
    (after (.pkClamp_2 5) State.reset).reg.clamp = ⟨0, 5⟩ := by decide +kernel

/-- VK4, VK4a, VK5a, VKC, VKD: the vertex registers of PACKED and the draw they give. -/
theorem test_packed_vertices :
    (after (.pkXyzf2 0x1234 0x5678 0xABCDEF 0x5A false) State.reset).reg.xyzf2 =
      0x5AABCDEF56781234 ∧
    (after (.pkXyzf2 0x1234 0x5678 0xABCDEF 0x5A false) State.reset).reg.fog =
      0x5A00000000000000 ∧
    (after (.pkXyzf2 0x1234 0x5678 0xABCDEF 0x5A false) State.reset).out.draws.length = 1 ∧
    (after (.pkXyzf2 0x1234 0x5678 0xABCDEF 0x5A true) State.reset).reg.xyzf3 =
      0x5AABCDEF56781234 ∧
    (after (.pkXyzf2 0x1234 0x5678 0xABCDEF 0x5A true) State.reset).out.draws = [] ∧
    (after (.pkXyz2 0x10 0x20 0xFFFFFFFF false) State.reset).reg.xyz2 = 0xFFFFFFFF00200010 ∧
    (after (.pkXyz2 0x10 0x20 0xFFFFFFFF true) State.reset).reg.xyz3 = 0xFFFFFFFF00200010 ∧
    (after (.pkXyzf3 1 2 3 4 false) State.reset).reg.xyzf3 = 0x0400000300020001 ∧
    (after (.pkXyz3 0x10 0x10 1 true) State.reset).reg.xyz3 = 0x0000000100100010 := by
  decide +kernel

/-- VKB, VKE2, VKE3, VKF: the reserved descriptor, A+D and NOP. -/
theorem test_packed_others :
    (after .pkReservedB State.reset).out.report = [.unknownReg .packed 0x0B] ∧
    (after (.pkAD 0x4C 5) State.reset).reg.frame = ⟨5, 0⟩ ∧
    (after (.pkAD 0x0B 1) State.reset).out.report = [.unknownReg .ad 0x0B] ∧
    after .pkNop State.reset = State.reset := by decide +kernel

/-- VG15, VG17 and R218: slots write the register of their descriptor's id. -/
theorem test_slots :
    (after (.rlPrim 6) State.reset).reg.prim = 6 ∧
    (after (.rlRgbaq 0x3F800000FF0000FF) State.reset).reg.rgbaq = 0x3F800000FF0000FF ∧
    (after (.rlSt 5) State.reset).reg.st = 5 ∧ (after (.rlUv 5) State.reset).reg.uv = 5 ∧
    (after (.rlXyzf2 5) State.reset).reg.xyzf2 = 5 ∧
    (after (.rlXyz2 5) State.reset).reg.xyz2 = 5 ∧
    (after (.rlTex0_1 5) State.reset).reg.tex0 = ⟨5, 0⟩ ∧
    (after (.rlTex0_2 5) State.reset).reg.tex0 = ⟨0, 5⟩ ∧
    (after (.rlClamp_1 5) State.reset).reg.clamp = ⟨5, 0⟩ ∧
    (after (.rlClamp_2 5) State.reset).reg.clamp = ⟨0, 5⟩ ∧
    (after (.rlFog 5) State.reset).reg.fog = 5 ∧
    (after (.rlReservedB 5) State.reset).out.report = [.unknownReg .reglist 0x0B] ∧
    (after (.rlXyzf3 5) State.reset).reg.xyzf3 = 5 ∧
    (after (.rlXyz3 5) State.reset).reg.xyz3 = 5 ∧
    after (.rlNoneE 5) State.reset = State.reset ∧ after (.rlNoneF 5) State.reset = State.reset := by
  decide +kernel

/-- VP12: a vertex takes every attribute current at its commit. -/
theorem test_vertex_attributes :
    (after (.xyz2 0x0000000500200010) (withReg { RegFile.reset with
      rgbaq := 0x3F80000080402010, st := 0x3F0000003E800000, uv := 0x00400020,
      fog := 0x7700000000000000 })).out.draws.map (fun d => d.verts) =
    [[{ x := 0x10, y := 0x20, z := 5, f := 0x77, r := 0x10, g := 0x20, b := 0x40, a := 0x80,
        q := 0x3F800000, s := 0x3E800000, t := 0x3F000000, u := 0x20, v := 0x40 }]] := by
  decide +kernel

/-- VP3, VP4, VP5: what a triangle, a strip and a fan keep of a full queue. -/
theorem test_kept_vertices :
    (after (.xyz2 2) (queued 3 [vertexAt 0 0, vertexAt 1 0])).vq = [] ∧
    ((after (.xyz2 2) (queued 4 [vertexAt 0 0, vertexAt 1 0])).vq.map (fun v => v.x)) = [1, 2] ∧
    ((after (.xyz2 2) (queued 5 [vertexAt 0 0, vertexAt 1 0])).vq.map (fun v => v.x)) = [0, 2] ∧
    ((after (.xyz2 2) (queued 2 [vertexAt 0 0])).vq.map (fun v => v.x)) = [2] := by decide +kernel

/-- VX22: a sprite of context 2 with the flags of PRMODE. -/
theorem test_draw_event :
    (after (.xyzf2 1) { withReg { RegFile.reset with prmodecont := 0, prmode := 0x218, prim := 6 }
      with vq := [vertexAt 0 0] }).out.draws.map (fun d => (d.type, d.ctxt, d.flags)) =
    [(.sprite, .c2, { iip := true, tme := true, fge := false, abe := false, aa1 := false,
                      fst := false, fix := false })] := by decide +kernel

/-- VP7, VP11: type 7. -/
theorem test_reserved_type :
    (after (.xyz2 0) (queued 7 [])).out.report = [.primReserved 7] ∧
    (after (.xyz3 0) (queued 7 [])).out = CallOut.empty ∧
    (after (.xyzf3 0) (queued 7 [])).vq = [] := by decide +kernel

/-- VX10, VX11: SIGNAL. -/
theorem test_signal :
    (after (.signal 0x0000FFFF00001234) State.reset).priv.siglblid = 0x1234 ∧
    (after (.signal 0x0000FFFF00001234) State.reset).priv.csrSignal = true ∧
    (after (.signal 0x000000FF000000AB)
      { State.reset with priv := { PrivRegs.reset with csrSignal := true, siglblid := 0x1234 } }
      ).priv.siglblid = 0x12AB ∧
    (after (.signal 0x000000FF000000AB)
      { State.reset with priv := { PrivRegs.reset with csrSignal := true, siglblid := 0x1234 } }
      ).out.report = [.unmodelled .signalPending] := by decide +kernel

/-- VX12, VX13, VX17: LABEL, FINISH, TEXFLUSH. -/
theorem test_label_finish_texflush :
    (after (.label 0xFFFFFFFF00000007)
      { State.reset with priv := { PrivRegs.reset with siglblid := 0x12AB } }).priv.siglblid =
        0x00000007000012AB ∧
    (after (.finish 0) State.reset).priv = { PrivRegs.reset with csrFinish := true } ∧
    after (.texflush 5) State.reset = State.reset := by decide +kernel

/-- VX16, VX19: unmapped ids. -/
theorem test_unmapped_id :
    after (.unmappedId .host 0x0B 1) State.reset =
      { State.reset with out := { CallOut.empty with report := [.unknownReg .host 0x0B] } } := by
  decide +kernel

/-- VT1: an armed transfer. -/
theorem test_trxdir_arms :
    (armed 0 0 0 2 1).xfer.active = true ∧ (armed 0 0 0 2 1).xfer.total = 2 ∧
    (armed 0 0 0 2 1).xfer.bitDepth = 32 ∧ (armed 0 0 0 2 1).reg.trxdir = 0 := by decide +kernel

/-- VT15, VT16, VT17: an empty transfer, an invalid PSM, unequal depths. -/
theorem test_trxdir_ends_at_once :
    (armed 0 0 0 0 5).xfer.active = false ∧ (armed 0 0 0 0 5).reg.trxdir = 3 ∧
    (armed 0 0 5 2 1).out.report = [.unmodelled (.psm 5)] ∧ (armed 0 0 5 2 1).reg.trxdir = 3 ∧
    (armed 2 0 2 2 1).out.report = [.unmodelled (.depths 32 16)] := by decide +kernel

/-- VT2, VT6: HWREG writes of two PSMCT32 pixels and of eight PSMT8 pixels. -/
theorem test_hwreg_write :
    (after (.hwreg 0x2222222211111111) (armed 0 0 0 2 1)).vram =
      writeWord (writeWord [] 0 0x11111111) 1 0x22222222 ∧
    (after (.hwreg 0x2222222211111111) (armed 0 0 0 2 1)).xfer.active = false ∧
    (after (.hwreg 0x2222222211111111) (armed 0 0 0 2 1)).reg.trxdir = 3 ∧
    ([0, 1, 4, 5, 8, 9, 12, 13].map
      (readWord (after (.hwreg 0x8877665544332211) (armed 0 0 0x13 8 1)).vram)) =
      [0x11, 0x22, 0x33, 0x44, 0x55, 0x66, 0x77, 0x88] := by decide +kernel

/-- VT4: two pixels of 24 bits, 16 bits of the word left over. -/
theorem test_hwreg_leftover :
    (after (.hwreg 0x3333222222111111) (armed 0 0 1 8 1)).xfer.pixels = 2 ∧
    (after (.hwreg 0x3333222222111111) (armed 0 0 1 8 1)).xfer.streamN = 16 ∧
    (after (.hwreg 0x3333222222111111) (armed 0 0 1 8 1)).xfer.streamBits = 0x3333 := by
  decide +kernel

/-- P2, lines 7 and 8: the high half of an IMAGE qword is discarded when the low half completes. -/
theorem test_image_padding :
    (after (.imageQword 0xDEADBEEFDEADBEEF000000C2000000B2) (armed 0 0 0 2 1)).out.report = [] ∧
    (after (.imageQword 0xDEADBEEFDEADBEEF000000C2000000B2) (armed 0 0 0 2 1)).xfer.pixels = 2 := by
  decide +kernel

/-- VT18: a copy from PSMCT32 to PSMZ32. -/
theorem test_local_copy :
    readWord (after (.trxdir 2) { transferRegs 0 0x30 1 1 with
      vram := writeWord [] 0 0x1234 }).vram 1536 = 0x1234 := by decide +kernel

/-- VT11, first read: two of three pixels. -/
theorem test_read_hwreg :
    (after .hostReadHwreg { armed 1 0 0 3 1 with
      vram := writeWord (writeWord [] 0 0xA) 1 0xB }).out.result = .word64 0x0000000B0000000A ∧
    (after .hostReadHwreg { armed 1 0 0 3 1 with
      vram := writeWord (writeWord [] 0 0xA) 1 0xB }).xfer.pixels = 2 ∧
    (after .hostReadHwreg State.reset).out =
      { report := [.hwregInactive .read], draws := [], result := .word64 0 } := by decide +kernel

/-- VG11, VG13: truncation. -/
theorem test_end_of_stream :
    (after (.hostEndOfStream .feed) (after (.hostFeedGif 0x000000000000000E1000000000008001)
      State.reset)).out.report = [.truncatedPayload 1] ∧
    (after (.hostEndOfStream .feed) (after (.hostFeedGif 0x00000000000000001000000000000000)
      State.reset)).out.report = [.truncatedNoEop] ∧
    (after (.hostEndOfStream .feed) State.reset).out.report = [] := by decide +kernel

/-- VH1: every privileged register reads 0 after reset, but CSR and IMR. -/
theorem test_priv_reads :
    ∀ p ∈ ([(.privPmode, 0), (.privSmode1, 0), (.privSmode2, 0), (.privSrfsh, 0), (.privSynch1, 0),
      (.privSynch2, 0), (.privSyncv, 0), (.privDispfb1, 0), (.privDisplay1, 0), (.privDispfb2, 0),
      (.privDisplay2, 0), (.privExtbuf, 0), (.privExtdata, 0), (.privExtwrite, 0),
      (.privBgcolor, 0), (.privCsr, 0x551B4000), (.privImr, 0x7F00), (.privBusdir, 0),
      (.privSiglblid, 0)] : List ((PrivAccess → Instr) × Word32)),
      (after (p.1 (.read32 .low)) State.reset).out.result = .word32 p.2 ∧
      (after (p.1 (.read32 .high)) State.reset).out.result = .word32 0 := by decide +kernel

/-- VH7, VH8, VH9: the two halves of a privileged register. -/
theorem test_priv_halves :
    (after (.privSynch1 (.write32 .high 0xFFFFFFFF)) (after (.privSynch1 (.write64
      0x0123456789ABCDEF)) State.reset)).priv.synch1 = 0xFFFFFFFF89ABCDEF ∧
    (after (.privImr (.write32 .high 1)) State.reset).priv.imr = 0x0000000100007F00 := by
  decide +kernel

/-- VH13, VH14, VH15: acknowledging by CSR, ignored bits, the high half. -/
theorem test_csr_write :
    (after (.privCsr (.write32 .low 0xC)) { State.reset with
      priv := { PrivRegs.reset with csrHsint := true, csrVsint := true } }).priv = PrivRegs.reset ∧
    after (.privCsr (.write32 .low 0xFFFF3000)) State.reset =
      after (.privCsr (.write32 .high 0xFFFFFFFF)) State.reset := by decide +kernel

/-- VH17, VH18: CSR.RESET. -/
theorem test_csr_reset :
    after (.privCsr (.write64 0x200)) (after (.frame_1 0x77) State.reset) = State.reset ∧
    after (.privCsr (.write32 .low 0x201)) (withWord 3 5) = State.reset := by decide +kernel

/-- VH2, VH4, VX18: host accesses by address. -/
theorem test_host_accesses :
    (after (.hostRead32 0x12000008) State.reset).out =
      { report := [.unknownAddr .r32 0x12000008], draws := [], result := .noValue } ∧
    (after (.privUnmapped .w64 0x12000004) State.reset).out.report =
      [.unknownAddr .w64 0x12000004] ∧
    (after (.hostWrite64 0x4C 0x55) State.reset).reg.frame = ⟨0x55, 0⟩ ∧
    (after (.hostWrite32 0x12001010 0x7E00) State.reset).priv.imr = 0x7E00 := by decide +kernel

/-- VH10, VH11, VH12: blanking. -/
theorem test_video_events :
    (after (.hostRead32 0x12001000) (after (.hostVideoEvent .hblank) State.reset)).out.result =
      .word32 0x551B4004 ∧
    (after (.hostRead32 0x12001000) (after (.hostVideoEvent .vblankStart)
      State.reset)).out.result = .word32 0x551B6008 := by decide +kernel

/-- VZ1, VZ3: reset. -/
theorem test_reset :
    after .hostReset (armed 0 0 0 2 1) = State.reset ∧
    afterCall .reset (queued 3 [vertexAt 1 2]) = State.reset := by decide +kernel

/-- The display of VH19. -/
def shownState : State :=
  { State.reset with priv := { PrivRegs.reset with pmode := 1, display1 := 0x001DF9FF01800000 } }

/-- VH19: the two resolutions. -/
theorem test_resolutions :
    (after .hostGetDisplayResolution shownState).out.result = .size 2560 480 ∧
    (after .hostGetInternalResolution shownState).out.result = .size 640 480 := by decide +kernel

/-- R457 on a display of 2 by 1 pixels, PSMCT32: VRAM words 0 and 1. -/
theorem test_framebuffer :
    (after .hostGetFramebuffer { withWord 1 7 with
      priv := { PrivRegs.reset with pmode := 1, display1 := 0x0000000100000000 } }).out.result =
    .frame 2 1 0 [0, 7] := by decide +kernel

/-- VX14, VH16: the interrupt level. -/
theorem test_irq :
    irq { State.reset with priv := { PrivRegs.reset with csrSignal := true } } = false ∧
    irq { State.reset with priv := { PrivRegs.reset with csrSignal := true, imr := 0x7E00 } } = true ∧
    irq { State.reset with priv := { PrivRegs.reset with csrHsint := true, imr := 0x7B00 } } =
      true := by decide +kernel

/-- Table words placed as the next thing the machine does: SCISSOR_1, PK_NOP, PRIV_CSR, and a
PACKED tag (log entry 9). -/
theorem test_placed_words :
    stepped (State.reset.withFetchWord 8 0x40) = State.reset ∧
    (stepped (State.reset.withFetchWord 4 0xF)).dec.decState = .awaitingTag ∧
    (stepped (State.reset.withFetchWord 32 0x12001000)).out.result = .word32 0x551B4000 ∧
    (stepped (State.reset.withFetchWord 128 0)).dec.packetOpen = true := by decide +kernel

/-! ## Witnesses of the statements' hypotheses -/

/-- A state in the middle of work: a PACKED packet with one qword left, a triangle with one vertex,
an armed transfer, memory, a pending call. -/
def busy : State :=
  { armed 0 0 0 2 1 with
    dec := decoderAtPacked 0x5 Decoder.reset
    reg := { (armed 0 0 0 2 1).reg with prim := 3 }
    vq := [vertexAt 1 2]
    vram := [(8, 1#8)]
    inbox := [.feedGif 0, .reset] }

theorem witness_StepRunsOldestCall :
    busy.inbox = .feedGif 0 :: [.reset] ∧ State.reset.inbox = [] := ⟨rfl, rfl⟩

theorem witness_ReportGrowsAndMarksUnmodelled :
    exec (.trxdir 0) (transferRegs 0 5 2 1) =
      .next (after (.trxdir 0) (transferRegs 0 5 2 1)) := rfl

theorem witness_ResetGivesEveryElementItsValue :
    ({ busy with inbox := [.reset] } : State).inbox = .reset :: [] := rfl

/-- An armed transfer meets its invariant. -/
theorem armed_inv : XferInv (armed 0 0 0 2 1).reg (armed 0 0 0 2 1).xfer := by
  unfold XferInv
  exact ⟨by decide +kernel, by decide +kernel, by decide +kernel, by decide +kernel,
    fun h => absurd h (by decide +kernel),
    fun _ => ⟨by decide +kernel, by rfl, by decide +kernel, by decide +kernel, by decide +kernel⟩⟩

theorem witness_StepKeepsInv :
    Inv busy ∧ step busy =
      .next (after (.hostFeedGif 0) { busy with inbox := [.reset], out := CallOut.empty }) := by
  refine ⟨⟨?_, ?_, ?_, ⟨⟨?_, ?_⟩, ?_⟩, ?_⟩, rfl⟩
  · unfold DecoderInv; decide +kernel
  · unfold VertexInv; decide +kernel
  · obtain ⟨h1, h2, h3, h4, h5, h6⟩ := armed_inv
    exact ⟨h1, h2, h3, h4, h5, h6⟩
  · simp [busy]
  · simp [busy]
  · decide +kernel
  · unfold EventInv; decide +kernel

theorem witness_DecodeOfEncode :
    (Instr.giftagPacked .feed (tagOf 0x3FFF)).wellFormed .bits14 = true ∧
    (Instr.unmappedId .tag 0xFF 1).wellFormed .bits15 = true ∧
    (Instr.privUnmapped .w64 0x100).wellFormed .bits15 = true := by decide +kernel

theorem witness_UnnamedTagBitsIgnored :
    ∀ i, named .bits14 i → (0 : Qword).getLsbD i = (0x4000 : Qword).getLsbD i := by
  intro i h
  have h14 : i ≠ 14 := by rintro rfl; revert h; unfold named; decide
  have h := @Nat.testBit_two_pow 14 i
  rw [decide_eq_false (Ne.symm h14)] at h
  exact (BitVec.getLsbD_zero).trans h.symm

theorem witness_UnmappedIdsAreReported :
    isUnmapped 0x0B = true ∧ isUnmapped 0x13 = true ∧ isUnmapped 0x63 = true ∧
    isUnmapped 0xFF = true ∧ isUnmapped 0x0A = false ∧ isUnmapped 0x62 = false := by decide +kernel

theorem witness_PrivilegedAddressMap :
    (0x12001080, PrivReg.siglblid) ∈ privTable ∧
    ∀ row ∈ privTable, (0x12001088 : Word32) ≠ row.1 ∧ (0x12001088 : Word32) ≠ row.1 + 4#32 := by
  decide +kernel

theorem witness_StoresKeepAllBits :
    GReg.rgbaq ∈ singleStores ++ ownCopyStores ∧ GReg.fba_2 ∈ singleStores ++ ownCopyStores ∧
    GReg.fog ≠ GReg.rgbaq := by decide +kernel

theorem witness_PrimEmptiesTheQueue :
    (1#2, Instr.giftagReglist) ∈ tagRows ∧
    ({ tagOf 0 with pre := true, prim := 0x7FF } : TagFields).pre = true := by simp [tagRows]

theorem witness_OtherWritesKeepTheQueue :
    GReg.hwreg ∉ [GReg.prim, GReg.xyzf2, GReg.xyz2, GReg.xyzf3, GReg.xyz3] ∧
    exec (GReg.hwreg.instr 5) busy = .next (after (.hwreg 5) busy) := ⟨by decide, rfl⟩

theorem witness_VertexIsQueued :
    rowXyz3 ∈ xyzRows ∧
    (queued 3 [vertexAt 0 0]).vq.length + 1 < needed (typeCode (queued 3 [vertexAt 0 0]).reg) :=
  ⟨by simp [xyzRows], by decide +kernel⟩

theorem witness_KickDraws :
    rowXyzf2 ∈ xyzRows ∧ rowXyzf2.kick = true ∧
    typeCode (queued 5 [vertexAt 0 0, vertexAt 1 0]).reg ≠ 7#3 ∧
    (queued 5 [vertexAt 0 0, vertexAt 1 0]).vq.length + 1 =
      needed (typeCode (queued 5 [vertexAt 0 0, vertexAt 1 0]).reg) :=
  ⟨by simp [xyzRows], rfl, by decide +kernel, by decide +kernel⟩

theorem witness_NoKickDrawsNothing :
    rowXyzf3 ∈ xyzRows ∧ rowXyzf3.kick = false ∧
    (queued 4 [vertexAt 0 0, vertexAt 1 0]).vq.length + 1 =
      needed (typeCode (queued 4 [vertexAt 0 0, vertexAt 1 0]).reg) :=
  ⟨by simp [xyzRows], rfl, by decide +kernel⟩

theorem witness_ReservedTypeIsReported :
    rowXyz2 ∈ xyzRows ∧ typeCode (queued 0xF [vertexAt 0 0]).reg = 7#3 :=
  ⟨by simp [xyzRows], by decide +kernel⟩

theorem witness_RunOfVerticesDrawsItsPrimitives :
    (queued 6 []).vq = [] ∧ typeCode (queued 6 []).reg ≠ 7#3 := ⟨rfl, by decide +kernel⟩

theorem witness_TagsStartTheirPayload :
    (0#2, Instr.giftagPacked) ∈ tagRows ∧ (3#2, Instr.giftagFlg3) ∈ tagRows := by simp [tagRows]

/-- A decoder between two tags of a packet with EOP = 0. -/
def betweenTags : Decoder := { Decoder.reset with packetOpen := true }

theorem witness_IngressChecksThePath :
    (busy.dec.packetOpen = true ∧ Path.path3 ≠ busy.dec.packetPath) ∧
    (accepts .path3 Decoder.reset ∧ Decoder.reset.decState = .awaitingTag) ∧
    (accepts .feed betweenTags ∧ betweenTags.decState = .awaitingTag) :=
  ⟨by decide +kernel, ⟨.inl rfl, rfl⟩, ⟨.inr rfl, rfl⟩⟩

theorem witness_PackedQwordIsCounted :
    accepts .feed busy.dec ∧ busy.dec.decState = .processing ∧ busy.dec.tag.flg = 0#2 :=
  ⟨.inr rfl, rfl, rfl⟩

/-- A decoder in a REGLIST payload with `n` slots left. -/
def inReglist (n : Nat) : Decoder :=
  { Decoder.reset with decState := .processing, packetOpen := true,
                       tag := { Decoder.reset.tag with flg := 1, nreg := 2, regs := 0x51 },
                       regCount := 2, regsLeft := 2, dataLeft := n }

theorem witness_ReglistQwordIsTwoSlots :
    (accepts .feed (inReglist 1) ∧ (inReglist 1).decState = .processing ∧
      (inReglist 1).tag.flg = 1#2 ∧ (inReglist 1).dataLeft ≤ 1) ∧
    (accepts .feed (inReglist 2) ∧ (inReglist 2).decState = .processing ∧
      (inReglist 2).tag.flg = 1#2 ∧ 1 < (inReglist 2).dataLeft) :=
  ⟨⟨.inr rfl, rfl, rfl, by decide⟩, ⟨.inr rfl, rfl, rfl, by decide⟩⟩

/-- A decoder in an IMAGE payload. -/
def inImage (flg : BitVec 2) : Decoder :=
  { Decoder.reset with decState := .processing, packetOpen := true, packetPath := .path3,
                       tag := { Decoder.reset.tag with flg := flg }, dataLeft := 1 }

theorem witness_ImageQwordIsTwoHwregWords :
    accepts .path3 (inImage 2) ∧ (inImage 2).decState = .processing ∧
    2 ≤ (inImage 2).tag.flg.toNat ∧ 2 ≤ (inImage 3).tag.flg.toNat :=
  ⟨.inr rfl, rfl, by decide, by decide⟩

/-- A tag with EOP = 1 of two PACKED qwords, and of none, from a state that awaits a tag. -/
theorem witness_PayloadLengthIsExact :
    State.reset.dec.decState = .awaitingTag ∧ accepts .path3 State.reset.dec ∧
    (0x2000000000008001 : Qword).getLsbD 15 = true ∧
    ([0] : List Qword).length < declared .bits15 0x2000000000008001 ∧
    ([0, 0] : List Qword).length = declared .bits15 0x2000000000008001 ∧
    ([] : List Qword).length = declared .bits15 0x2000000000008000 :=
  ⟨rfl, .inl rfl, by decide +kernel, by decide +kernel, by decide +kernel, by decide +kernel⟩

theorem witness_PathsDecodeIdentically : accepts .feed busy.dec := .inr rfl

theorem witness_GifPathsReachNoPrivilegedRegister :
    exec (ingress .feed 0x600000000000000005) { busy with
        dec := decoderAtPacked 0xE Decoder.reset, priv := { PrivRegs.reset with csrFinish := true } } =
      .next (after (.hostFeedGif 0x600000000000000005) { busy with
        dec := decoderAtPacked 0xE Decoder.reset,
        priv := { PrivRegs.reset with csrFinish := true } }) := rfl

/-- A buffer of one page under the policy that refuses odd widths. -/
def onePage : Params := { Config.defaults with vramWords := 2048, oddBwPolicy := .refuse }

theorem witness_PixelChecksInOrder :
    modeBits 0x05 = none ∧
    (onePage.oddBwPolicy = .refuse ∧ 1 % 2 = 1 ∧ ((0x13#6 = 0x13#6) ∨ 0x13#6 = 0x14#6)) ∧
    (psmOf 0x00 = some .ct32 ∧
      ¬ (onePage.oddBwPolicy = .refuse ∧ 1 % 2 = 1 ∧ (0x00#6 = 0x13#6 ∨ 0x00#6 = 0x14#6)) ∧
      onePage.vramWords ≤ (pixelLoc .ct32 0 1 64 0).word) ∧
    (pixelLoc .ct32 0 1 64 0).word = onePage.vramWords := by decide +kernel

theorem witness_PixelReadsBackAndKeepsTheRest :
    Memory.wf [(8191, 1#8)] ∧ locate onePage 0x02 0 1 63 63 = .ok ⟨2047, 16, 16⟩ := by
  refine ⟨by simp [Memory.wf], rfl⟩

theorem witness_PixelsOfAPageAreDistinct :
    127 / (pageSize .t8).1 = (0 + 127) / (pageSize .t8).1 ∧
    63 / (pageSize .t8).2 = (60 + 3) / (pageSize .t8).2 ∧
    pixelLoc .t8 5 2 127 63 = pixelLoc .t8 5 2 (0 + 127) (60 + 3) := by decide +kernel

theorem witness_PixelOrderCoversTheRectangle :
    5 < 3 * 2 ∧ 2 < 3 ∧ 1 < 2 ∧ pixelXY 3 2 5 1#2 = (2, 0) := by decide +kernel

theorem witness_OnlyListedRowsWriteVram :
    mayWriteVram (.pkXyz2 1 2 3 true) = false ∧
    mayWriteVram (.privCsr (.write64 0x1FF)) = false ∧
    exec (.pkXyz2 1 2 3 true) busy = .next (after (.pkXyz2 1 2 3 true) busy) :=
  ⟨by decide +kernel, by decide +kernel, rfl⟩

theorem witness_TrxdirArmsHostTransfers :
    ((1#2, XferDir.localToHost) ∈ directions ∧ XferDir.localToHost ≠ .localToLocal ∧
      (0x1#64).extractLsb' 0 2 = 1#2) ∧
    (depthOf .localToHost (transferRegs 0x14 5 4095 1).reg.bitbltbuf = some 4 ∧
      width (transferRegs 0x14 5 4095 1).reg.trxreg *
        height (transferRegs 0x14 5 4095 1).reg.trxreg ≠ 0) ∧
    (width (transferRegs 0x14 5 0 1).reg.trxreg * height (transferRegs 0x14 5 0 1).reg.trxreg = 0) ∧
    depthOf .hostToLocal (transferRegs 0x14 5 4095 1).reg.bitbltbuf = none := by decide +kernel

theorem witness_TrxdirCopiesLocally :
    (0xFFFFFFFFFFFFFFFE#64).extractLsb' 0 2 = 2#2 ∧
    depthOf .localToLocal (transferRegs 0 0x30 1 1).reg.bitbltbuf = some 32 ∧
    depthOf .localToLocal (transferRegs 0 2 1 1).reg.bitbltbuf = none ∧
    depthOf .localToLocal (transferRegs 5 5 1 1).reg.bitbltbuf = none := by decide +kernel

theorem witness_TrxdirOffCancels :
    (0x3#64).extractLsb' 0 2 = 3#2 ∧ (armed 0 0 0 2 1).xfer.active = true ∧
    State.reset.xfer.active = false := by decide +kernel

/-- A host-to-local transfer of 24-bit pixels with 16 bits left over: two of eight pixels done. -/
def partWritten : State := after (.hwreg 0x3333222222111111) (armed 0 0 1 8 1)

theorem witness_HwregWriteTakesPixels :
    partWritten.xfer.active = true ∧ partWritten.xfer.dir = .hostToLocal ∧
    0 < partWritten.xfer.bitDepth ∧ partWritten.xfer.streamBits < 2 ^ partWritten.xfer.streamN ∧
    partWritten.xfer.pixels ≤ partWritten.xfer.total := by decide +kernel

/-- A local-to-host transfer of 24-bit pixels with 8 bits left over: all three pixels fetched. -/
def partRead : State := after .hostReadHwreg (armed 1 1 0 3 1)

theorem witness_HwregReadGivesPixels :
    partRead.xfer.active = true ∧ partRead.xfer.dir = .localToHost ∧ 0 < partRead.xfer.bitDepth ∧
    partRead.xfer.streamBits < 2 ^ partRead.xfer.streamN ∧
    partRead.xfer.pixels = partRead.xfer.total := by decide +kernel

theorem witness_HwregWithoutTransferIsReported :
    ¬ (partRead.xfer.active = true ∧ partRead.xfer.dir = .hostToLocal) ∧
    ¬ (partWritten.xfer.active = true ∧ partWritten.xfer.dir = .localToHost) ∧
    ¬ (State.reset.xfer.active = true ∧ State.reset.xfer.dir = .hostToLocal) := by decide +kernel

/-- An armed local-to-host transfer meets the invariant of transfers. -/
theorem armed_read_inv : XferInv (armed 1 1 0 3 1).reg (armed 1 1 0 3 1).xfer := by
  unfold XferInv
  exact ⟨by decide +kernel, by decide +kernel, by decide +kernel, by decide +kernel,
    fun h => absurd h (by decide +kernel),
    fun _ => ⟨by decide +kernel, by rfl, by decide +kernel, by decide +kernel, by decide +kernel⟩⟩

theorem witness_TransferTakesItsWords :
    (XferInv (armed 0 0 0 2 1).reg (armed 0 0 0 2 1).xfer ∧ (armed 0 0 0 2 1).xfer.active = true ∧
      (armed 0 0 0 2 1).xfer.dir = .hostToLocal ∧ (armed 0 0 0 2 1).xfer.pixels = 0 ∧
      (armed 0 0 0 2 1).xfer.streamN = 0 ∧
      ([] : List Word64).length < hwregWords (armed 0 0 0 2 1).xfer ∧
      ([5] : List Word64).length = hwregWords (armed 0 0 0 2 1).xfer) ∧
    (XferInv (armed 1 1 0 3 1).reg (armed 1 1 0 3 1).xfer ∧ (armed 1 1 0 3 1).xfer.active = true ∧
      (armed 1 1 0 3 1).xfer.dir = .localToHost ∧ (armed 1 1 0 3 1).xfer.pixels = 0 ∧
      (armed 1 1 0 3 1).xfer.streamN = 0 ∧ 1 < hwregWords (armed 1 1 0 3 1).xfer ∧
      2 = hwregWords (armed 1 1 0 3 1).xfer) :=
  ⟨⟨armed_inv, by decide +kernel⟩, ⟨armed_read_inv, by decide +kernel⟩⟩

/-- The byte just above the two words that an HWREG write stores to. -/
theorem witness_TransfersKeepOtherBytes_write :
    exec (.hwreg 5) (armed 0 0 0 2 1) = .next (after (.hwreg 5) (armed 0 0 0 2 1)) ∧
    ∀ k l, (armed 0 0 0 2 1).xfer.pixels ≤ k →
      k < (after (.hwreg 5) (armed 0 0 0 2 1)).xfer.pixels →
      destAt (armed 0 0 0 2 1).cfg (armed 0 0 0 2 1).xfer 0#2 k = .ok l → 8 / 4 ≠ l.word := by
  refine ⟨rfl, fun k l _ h hl => ?_⟩
  have hp : (after (.hwreg 5) (armed 0 0 0 2 1)).xfer.pixels = 2 := by decide +kernel
  rw [hp] at h
  interval_cases k <;> cases hl <;> decide +kernel

/-- The byte just above the word that a copy of one pixel stores to. -/
theorem witness_TransfersKeepOtherBytes_copy :
    exec (.trxdir 2) (transferRegs 0 0 1 1) = .next (after (.trxdir 2) (transferRegs 0 0 1 1)) ∧
    (2#64).extractLsb' 0 2 = 2#2 ∧
    ∀ k l, k < (after (.trxdir 2) (transferRegs 0 0 1 1)).xfer.pixels →
      destAt (after (.trxdir 2) (transferRegs 0 0 1 1)).cfg
        (after (.trxdir 2) (transferRegs 0 0 1 1)).xfer
        ((after (.trxdir 2) (transferRegs 0 0 1 1)).xfer.pos.extractLsb' 59 2) k = .ok l →
      4 / 4 ≠ l.word := by
  refine ⟨rfl, by decide, fun k l h hl => ?_⟩
  have hp : (after (.trxdir 2) (transferRegs 0 0 1 1)).xfer.pixels = 1 := by decide +kernel
  rw [hp] at h
  interval_cases k
  cases hl
  decide +kernel

/-- Cancelling a transfer that has counted pixels, at the first byte they were stored to. -/
theorem witness_TransfersKeepOtherBytes_off :
    exec (.trxdir 3) partWritten = .next (after (.trxdir 3) partWritten) ∧
    (3#64).extractLsb' 0 2 ≠ 2#2 ∧ 0 < (after (.trxdir 3) partWritten).xfer.pixels ∧
    readByte partWritten.vram 0 = 0x11 := ⟨rfl, by decide +kernel⟩

theorem witness_PrivilegedRegistersStore :
    privStored .bgcolor { PrivRegs.reset with bgcolor := 7 } = some 7 := rfl

theorem witness_CsrWriteAcknowledges :
    (0xFFFFFFFF0000001F#64).extractLsb' 0 32 = 0x1F#32 ∧ (0x1F#32).getLsbD 9 = false ∧
    (0x201#64).extractLsb' 0 32 = 0x201#32 ∧ (0x201#32).getLsbD 9 = true := by decide +kernel

theorem witness_HostAccessesRunTheirRow :
    (0xFF#32).toNat ≤ 0xFF ∧ 0xFF < (0x100#32).toNat := by decide

theorem witness_NothingSetsNfieldOrEdwint :
    exec (.texflush 0) { State.reset with
        priv := { PrivRegs.reset with csrNfield := true, csrEdwint := true } } =
      .next { State.reset with
        priv := { PrivRegs.reset with csrNfield := true, csrEdwint := true } } := rfl

theorem witness_FramebufferIsTheDisplayedPixels :
    internalW shownState.priv = 640 ∧ internalH shownState.priv = 480 ∧
    639 < internalW shownState.priv ∧ 479 < internalH shownState.priv := by decide +kernel

end Sys2Proof.Tests
end

section
/-! The family Scope (00_scope.md R7): what a step does with the pending host calls. -/

namespace Sys2Proof.Proofs
open Sys2Proof.Machine

theorem fetch_of_inbox_nil {s : State} (h : s.inbox = []) : fetch s = none := by
  unfold fetch
  rw [h]

theorem fetch_of_inbox_cons {s : State} {c : Call} {rest : List Call} (h : s.inbox = c :: rest) :
    fetch s = some (c, rest) := by
  unfold fetch
  rw [h]

/-- A step with no pending call: the block initiates nothing on its own. -/
theorem step_of_inbox_nil {s : State} (h : s.inbox = []) : step s = .next s := by
  unfold step
  rw [fetch_of_inbox_nil h]

/-- A step with a pending call: the oldest is performed and no longer pending. -/
theorem step_of_inbox_cons {s : State} {c : Call} {rest : List Call} (h : s.inbox = c :: rest) :
    step s = exec c.instr (beginCall rest s) := by
  unfold step
  rw [fetch_of_inbox_cons h]

/-- A host call carries its own fields: its decoding does not depend on the width of NLOOP. -/
@[simp] theorem decode_call (nb : NloopBits) (c : Call) : decode nb (.call c) = c.instr := rfl

/-- Settles O1, by the two cases of the inbox. -/
theorem stepRunsOldestCall : Obligations.StepRunsOldestCall := by
  unfold Obligations.StepRunsOldestCall
  refine fun s => ⟨fun c rest hcons => ?pending, fun hnil => step_of_inbox_nil hnil⟩
  case pending =>
    calc step s
      _ = exec c.instr (beginCall rest s) := step_of_inbox_cons hcons
      _ = exec (decode s.cfg.nloopBits (.call c)) (beginCall rest s) := by rw [decode_call]

end Sys2Proof.Proofs
end

section
/-! The family State (10_state.md R23, R46): the state that the block keeps apart from its decoder,
and the accesses that change nothing of it. -/

namespace Sys2Proof.Proofs
open Sys2Proof.Machine

/-- What `Inv` says apart from the decoder: register writes, host accesses and the transfer engine
keep it in every state of the decoder. -/
structure BlockInv (s : State) : Prop where
  vertex : VertexInv s
  xfer : XferInv s.reg s.xfer
  memory : MemoryInv s.cfg s.vram
  event : EventInv s.priv

theorem inv_iff {s : State} : Inv s ↔ DecoderInv s.dec ∧ BlockInv s :=
  ⟨fun ⟨hdec, hvertex, hxfer, hmemory, hevent⟩ => ⟨hdec, hvertex, hxfer, hmemory, hevent⟩,
    fun ⟨hdec, hvertex, hxfer, hmemory, hevent⟩ => ⟨hdec, hvertex, hxfer, hmemory, hevent⟩⟩

/-! ### Updates of what no invariant reads -/

@[simp] theorem blockInv_setDec {s : State} (d : Decoder) : BlockInv (s.setDec d) ↔ BlockInv s :=
  ⟨fun ⟨hv, hx, hm, he⟩ => ⟨hv, hx, hm, he⟩, fun ⟨hv, hx, hm, he⟩ => ⟨hv, hx, hm, he⟩⟩

@[simp] theorem blockInv_raise {s : State} (e : Err) : BlockInv (raise e s) ↔ BlockInv s :=
  ⟨fun ⟨hv, hx, hm, he⟩ => ⟨hv, hx, hm, he⟩, fun ⟨hv, hx, hm, he⟩ => ⟨hv, hx, hm, he⟩⟩

@[simp] theorem inv_raise {s : State} (e : Err) : Inv (raise e s) ↔ Inv s := by
  simp [inv_iff]

@[simp] theorem inv_setResult {s : State} (r : Result) : Inv (setResult r s) ↔ Inv s := Iff.rfl

@[simp] theorem inv_beginCall {s : State} (rest : List Call) :
    Inv (beginCall rest s) ↔ Inv s := Iff.rfl

/-! ### Reset (70_reset_and_hazards.md R490) -/

theorem decoderInv_reset : DecoderInv Decoder.reset :=
  ⟨by decide, fun _ => ⟨rfl, rfl⟩, fun h => by cases h⟩

theorem xferInv_reset (r : RegFile) : XferInv r Xfer.reset :=
  ⟨rfl, le_refl _, rfl, by decide, fun _ => rfl, fun h => by cases h⟩

/-- The block after a reset meets the invariant, whatever it held and whatever the parameters. -/
theorem resetBlock_inv (s : State) : Inv (resetBlock s) :=
  inv_iff.mpr ⟨decoderInv_reset,
    { vertex := vertsNeeded_pos _
      xfer := xferInv_reset _
      memory := ⟨Memory.wf_nil, fun _ h => absurd h List.not_mem_nil⟩
      event := ⟨rfl, rfl⟩ }⟩

/-- Settles O5: the state after construction is that of a reset under the default parameters. -/
theorem resetMeetsInv : Obligations.ResetMeetsInv := by
  unfold Obligations.ResetMeetsInv
  have hreset : State.reset = resetBlock State.reset := rfl
  rw [hreset]
  exact resetBlock_inv State.reset

end Sys2Proof.Proofs
end

section
/-! The transfer engine keeps its invariant (44_transfer_engine.md R398). -/

namespace Sys2Proof.Proofs
open Sys2Proof.Machine

/-! ### The engine's invariant -/

/-- Of the register file, the engine's invariant reads TRXDIR alone. -/
theorem xferInv_of_trxdir {r r' : RegFile} {x : Xfer} (h : r'.trxdir = r.trxdir)
    (hx : XferInv r x) : XferInv r' x := by
  unfold XferInv at hx ⊢
  rwa [h]

/-- An engine at rest: the clauses of an active transfer do not matter. -/
theorem xferInv_of_inactive {r : RegFile} {x : Xfer} (hactive : x.active = false)
    (htotal : x.total = xferWidth x * xferHeight x) (hpixels : x.pixels ≤ x.total)
    (haddr : x.addr = x.pixels * x.bitDepth) (hbits : x.streamBits = 0) (hn : x.streamN = 0) :
    XferInv r x :=
  ⟨htotal, hpixels, haddr, by simp [hbits, hn], fun _ => hn,
    fun h => absurd (hactive.symm.trans h) (by decide)⟩

/-- The address keeps pace with the pixels counted (10_state.md R46). -/
theorem addr_add_pixels {x : Xfer} (k : Nat) (h : x.addr = x.pixels * x.bitDepth) :
    x.addr + k * x.bitDepth = (x.pixels + k) * x.bitDepth := by
  rw [h, Nat.add_mul]

/-- The XDIR that selects a direction is the direction's code. -/
theorem eq_xdirCode_of_xferDirOf {xdir : BitVec 2} {dir : XferDir}
    (h : xferDirOf xdir = some dir) : xdir = xdirCode dir := by
  cases dir <;> revert xdir <;> decide

/-- Bits shifted out of a stream leave the rest below its new length. -/
theorem stream_shift_lt {b n : Nat} (m : Nat) (h : b < 2 ^ n) : b >>> m < 2 ^ (n - m) := by
  rw [Nat.shiftRight_eq_div_pow]
  refine Nat.div_lt_of_lt_mul (lt_of_lt_of_le h ?_)
  rw [← Nat.pow_add]
  exact Nat.pow_le_pow_right (by decide) (by omega)

/-! ### What the engine leaves alone -/

/-- `t` follows from `s` by the transfer engine: of what the block's invariant reads, only the
engine, TRXDIR and memory can differ, and memory keeps its form and its bounds. -/
structure EngineFrame (s t : State) : Prop where
  vq : t.vq = s.vq
  prim : t.reg.prim = s.reg.prim
  priv : t.priv = s.priv
  memory : MemoryInv s.cfg s.vram → MemoryInv t.cfg t.vram

theorem EngineFrame.trans {a b c : State} (h : EngineFrame a b) (k : EngineFrame b c) :
    EngineFrame a c where
  vq := k.vq.trans h.vq
  prim := k.prim.trans h.prim
  priv := k.priv.trans h.priv
  memory := k.memory ∘ h.memory

theorem EngineFrame.of_moves {s t : State} (h : Moves s t) : EngineFrame s t where
  vq := h.vq
  prim := by rw [h.reg]
  priv := h.priv
  memory := fun ⟨hwf, hbelow⟩ => by rw [h.cfg]; exact ⟨h.wf hwf, h.below hbelow⟩

theorem EngineFrame.of_deactivate (s : State) : EngineFrame s (deactivate s) :=
  ⟨rfl, rfl, rfl, id⟩

theorem EngineFrame.of_storeTrxdir (v : Word64) (s : State) : EngineFrame s (storeTrxdir v s) :=
  ⟨rfl, rfl, rfl, id⟩

/-- What the engine does keeps the block's invariant where it keeps the engine's. -/
theorem blockInv_of_engineFrame {s t : State} (h : EngineFrame s t) (hs : BlockInv s)
    (hx : XferInv t.reg t.xfer) : BlockInv t where
  vertex := by unfold VertexInv; rw [h.vq, h.prim]; exact hs.vertex
  xfer := hx
  memory := h.memory hs.memory
  event := by rw [h.priv]; exact hs.event

/-! ### TRXDIR (R383 to R390) -/

theorem EngineFrame.of_cancelXfer (s : State) : EngineFrame s (cancelXfer s) := by
  unfold cancelXfer
  split
  · exact .of_moves (.setXfer ..)
  · exact .of_moves (.refl s)

/-- The engine with the formats and the depth of a new transfer latched moves nothing else. -/
theorem EngineFrame.of_latch (d : Nat) (dir : XferDir) (s : State) :
    EngineFrame s (setDepth d (latchXfer dir s)) :=
  .of_moves ((Moves.setXfer ..).trans (.setXfer ..))

theorem trxdirWrite_engineFrame (v : Word64) (s : State) : EngineFrame s (trxdirWrite v s) := by
  refine .trans (.of_storeTrxdir v s) ?_
  rcases trxdirWrite_cases v s with ⟨_, h⟩ | ⟨dir, _, ⟨e, _, h⟩ | ⟨d, _, s2, rfl, ⟨_, h⟩ |
    ⟨_, _, h⟩ | ⟨_, _, h⟩⟩⟩ <;> rw [h]
  case inl => exact .of_cancelXfer _
  case inr.inl =>
    exact .trans (.of_moves ((Moves.setXfer ..).trans ((Moves.raise ..).trans (.setXfer ..))))
      (.of_deactivate _)
  case inr.inr.inl => exact .trans (.of_latch ..) (.of_deactivate _)
  case inr.inr.inr.inl =>
    exact .trans (.trans (.of_latch ..) (.of_moves (.localCopy _))) (.of_deactivate _)
  case inr.inr.inr.inr => exact .trans (.of_latch ..) (.of_moves (.setXfer ..))

/-- A cancelled transfer keeps its counters and loses its stream; with none active nothing
changes (R384). -/
theorem cancelXfer_xferInv {s : State} {r : RegFile} (r' : RegFile) (hx : XferInv r s.xfer) :
    XferInv r' (cancelXfer s).xfer := by
  obtain ⟨htotal, hpixels, haddr, hbits, hrest, _⟩ := hx
  unfold cancelXfer
  split
  case isTrue => exact xferInv_of_inactive rfl htotal hpixels haddr rfl rfl
  case isFalse hoff =>
    have hidle : s.xfer.active = false := Bool.eq_false_iff.mpr hoff
    have hn := hrest hidle
    exact xferInv_of_inactive hidle htotal hpixels haddr (by simpa [hn] using hbits) hn

/-- A transfer just armed: TRXDIR names its direction, every pixel is left and the stream is
empty. -/
theorem armed_xferInv {r : RegFile} {x : Xfer} (hdepth : xferDepth x.dir x.buf = .ok x.bitDepth)
    (hxdir : xferDirOf (trxdirXDIR r.trxdir) = some x.dir) (hdir : x.dir ≠ .localToLocal)
    (htotal : x.total = xferWidth x * xferHeight x) (hleft : x.total ≠ 0)
    (hpixels : x.pixels = 0) (haddr : x.addr = 0) (hbits : x.streamBits = 0) (hn : x.streamN = 0) :
    XferInv r x := by
  have hpos := (xferDepth_range hdepth).1
  refine ⟨htotal, by omega, by simp [hpixels, haddr], by simp [hbits, hn], fun _ => hn, fun _ =>
    ⟨hdir, hdepth, eq_xdirCode_of_xferDirOf hxdir, fun _ => ?_, fun _ => ?_⟩⟩ <;> omega

theorem trxdirWrite_xferInv (v : Word64) {s : State} (hx : XferInv s.reg s.xfer) :
    XferInv (trxdirWrite v s).reg (trxdirWrite v s).xfer := by
  rcases trxdirWrite_cases v s with ⟨_, h⟩ | ⟨dir, hxdir, ⟨e, _, h⟩ | ⟨d, hdepth, s2, rfl, ⟨_, h⟩ |
    ⟨_, _, h⟩ | ⟨hleft, hdir, h⟩⟩⟩ <;> rw [h]
  case inl => exact cancelXfer_xferInv (s := storeTrxdir v s) _ hx
  case inr.inl => exact xferInv_of_inactive rfl rfl (Nat.zero_le _) rfl rfl rfl
  case inr.inr.inl =>
    exact xferInv_of_inactive rfl rfl (Nat.zero_le _) (Nat.zero_mul _).symm rfl rfl
  case inr.inr.inr.inl =>
    rw [deactivate_xfer, localCopy_xfer]
    exact xferInv_of_inactive rfl rfl (by simp) (by simp) rfl rfl
  case inr.inr.inr.inr => exact armed_xferInv hdepth hxdir hdir rfl hleft rfl rfl rfl rfl

theorem trxdirWrite_blockInv (v : Word64) {s : State} (hs : BlockInv s) :
    BlockInv (trxdirWrite v s) :=
  blockInv_of_engineFrame (trxdirWrite_engineFrame v s) hs (trxdirWrite_xferInv v hs.xfer)

/-! ### HWREG writes (R391 to R393) -/

theorem hwregWrite_engineFrame (v : Word64) (s : State) : EngineFrame s (hwregWrite v s) := by
  have hloop (n : Nat) : Moves s (takePixels n (pushWord v s)) :=
    (Moves.setXfer ..).trans (.takePixels ..)
  rcases hwregWrite_cases v s with ⟨_, h⟩ | ⟨_, _, s2, rfl, ⟨_, h⟩ | ⟨_, h⟩⟩ <;> rw [h]
  case inl => exact .of_moves (.raise ..)
  case inr.inl => exact .trans (.of_moves ((hloop _).trans (.setXfer ..))) (.of_deactivate _)
  case inr.inr => exact .of_moves (hloop _)

/-- The engine after the loop of a host-to-local word, where it has not ended the rectangle: fewer
bits than a pixel are left. -/
theorem takenXfer_xferInv {r : RegFile} {x : Xfer} (v : Word64) (k : Nat) (hx : XferInv r x)
    (hactive : x.active = true) (hdir : x.dir = .hostToLocal)
    (hleft : x.pixels + k < x.total) (hend : x.streamN + 64 - k * x.bitDepth < x.bitDepth) :
    XferInv r (takenXfer k { x with
      streamBits := x.streamBits ||| (v.toNat <<< x.streamN), streamN := x.streamN + 64 }) := by
  obtain ⟨htotal, _, haddr, hstream, _, hbusy⟩ := hx
  obtain ⟨hll, hdepth, hxdir, _, _⟩ := hbusy hactive
  have hpush := stream_append_lt hstream v.isLt
  refine ⟨htotal, hleft.le, addr_add_pixels k haddr, stream_shift_lt _ hpush, fun h => ?_,
    fun _ => ⟨hll, hdepth, hxdir, fun _ => ⟨hleft, hend⟩, fun h => ?_⟩⟩
  · exact absurd (hactive.symm.trans h) (by decide)
  · exact absurd (hdir.symm.trans h) (by decide)

theorem hwregWrite_xferInv (v : Word64) {s : State} (hx : XferInv s.reg s.xfer) :
    XferInv (hwregWrite v s).reg (hwregWrite v s).xfer := by
  have ⟨htotal, hpixels, haddr, _⟩ := hx
  obtain ⟨k, hk, hbits, hle, hstop⟩ :=
    takePixels_xfer (s.xfer.total - s.xfer.pixels) (pushWord v s) hpixels
  have hloop := Moves.takePixels (s.xfer.total - s.xfer.pixels) (pushWord v s)
  rcases hwregWrite_cases v s with ⟨_, h⟩ | ⟨hactive, hdir, s2, rfl, ⟨_, h⟩ | ⟨hsome, h⟩⟩ <;>
    rw [h]
  case inl => exact hx
  case inr.inl =>
    rw [deactivate_xfer, State.setXfer_xfer, hk]
    exact xferInv_of_inactive rfl htotal hle (addr_add_pixels k haddr) rfl rfl
  case inr.inr =>
    rw [hk] at hsome
    have hleft : s.xfer.pixels + k ≠ s.xfer.total := hsome
    rw [hloop.reg, hk]
    simp only [pushWord_xfer] at hbits hle hstop
    exact takenXfer_xferInv v k hx hactive hdir (by omega) (by omega)

theorem hwregWrite_blockInv (v : Word64) {s : State} (hs : BlockInv s) :
    BlockInv (hwregWrite v s) :=
  blockInv_of_engineFrame (hwregWrite_engineFrame v s) hs (hwregWrite_xferInv v hs.xfer)

/-! ### HWREG reads (R394, R395) -/

theorem hwregRead_engineFrame (s : State) : EngineFrame s (hwregRead s).2 := by
  have hloop (n : Nat) : Moves s (shiftOut (givePixels n s)) :=
    (Moves.givePixels ..).trans (.setXfer ..)
  rcases hwregRead_cases s with ⟨_, h⟩ | ⟨_, _, s1, rfl, h⟩ <;> rw [h]
  case inl => exact .of_moves (.raise ..)
  case inr =>
    dsimp only
    split
    · exact .trans (.of_moves (hloop _)) (.of_deactivate _)
    · exact .of_moves (hloop _)

/-- The engine after a read that gave `k` pixels to the stream, of bits `b` before the word was
taken off. -/
def drainedXfer (k b : Nat) (x : Xfer) : Xfer :=
  { x with
    streamBits := b >>> 64
    streamN := x.streamN + k * x.bitDepth - 64
    pixels := x.pixels + k
    addr := x.addr + k * x.bitDepth }

/-- A read that leaves something to move: less than a word is in the stream. -/
theorem drainedXfer_xferInv {r : RegFile} {x : Xfer} {k b : Nat} (hx : XferInv r x)
    (hactive : x.active = true) (hdir : x.dir = .localToHost)
    (hb : b < 2 ^ (x.streamN + k * x.bitDepth)) (hle : x.pixels + k ≤ x.total)
    (hword : k = 0 ∨ x.streamN + k * x.bitDepth < 64 + x.bitDepth)
    (hmore : ¬ (x.pixels + k = x.total ∧ x.streamN + k * x.bitDepth - 64 = 0)) :
    XferInv r (drainedXfer k b x) := by
  obtain ⟨htotal, _, haddr, _, _, hbusy⟩ := hx
  obtain ⟨hll, hdepth, hxdir, _, hgive⟩ := hbusy hactive
  have hshort := (hgive hdir).1
  have hmax := (xferDepth_range hdepth).2
  refine ⟨htotal, hle, addr_add_pixels k haddr, stream_shift_lt 64 hb, fun h => ?_, fun _ =>
    ⟨hll, hdepth, hxdir, fun h => ?_, fun _ => ⟨?_, ?_⟩⟩⟩
  · exact absurd (hactive.symm.trans h) (by decide)
  · exact absurd (hdir.symm.trans h) (by decide)
  · show x.streamN + k * x.bitDepth - 64 < 64
    rcases hword with rfl | hword <;> omega
  · show x.pixels + k < x.total ∨ 0 < x.streamN + k * x.bitDepth - 64
    omega

/-- A read that leaves nothing: the last word emptied the stream. -/
theorem drainedXfer_end_xferInv {r r' : RegFile} {x : Xfer} {k b : Nat} (hx : XferInv r x)
    (hb : b < 2 ^ (x.streamN + k * x.bitDepth)) (hle : x.pixels + k ≤ x.total)
    (hempty : x.streamN + k * x.bitDepth - 64 = 0) :
    XferInv r' { drainedXfer k b x with active := false } := by
  obtain ⟨htotal, _, haddr, _⟩ := hx
  have hbits := stream_shift_lt 64 hb
  rw [hempty] at hbits
  exact xferInv_of_inactive rfl htotal hle (addr_add_pixels k haddr) (Nat.lt_one_iff.mp hbits)
    hempty

theorem hwregRead_xferInv {s : State} (hx : XferInv s.reg s.xfer) :
    XferInv (hwregRead s).2.reg (hwregRead s).2.xfer := by
  have ⟨_, hpixels, _, hstream, _⟩ := hx
  obtain ⟨k, b, hk, hb, hle, hword, _⟩ :=
    givePixels_xfer (s.xfer.total - s.xfer.pixels) s hpixels hstream
  have hreg := (Moves.givePixels (s.xfer.total - s.xfer.pixels) s).reg
  rcases hwregRead_cases s with ⟨_, h⟩ | ⟨hactive, hdir, s1, rfl, h⟩ <;> rw [h]
  case inl => exact hx
  case inr =>
    have hdrained : (shiftOut (givePixels (s.xfer.total - s.xfer.pixels) s)).xfer =
        drainedXfer k b s.xfer := by
      unfold shiftOut
      rw [State.setXfer_xfer, hk]
      rfl
    rw [hk]
    dsimp only
    split
    case isTrue hdone =>
      rw [deactivate_xfer, hdrained]
      exact drainedXfer_end_xferInv hx hb hle hdone.2
    case isFalse hmore =>
      unfold shiftOut at hdrained ⊢
      rw [hdrained, State.setXfer_reg, hreg]
      exact drainedXfer_xferInv hx hactive hdir hb hle hword hmore

theorem hwregRead_blockInv {s : State} (hs : BlockInv s) : BlockInv (hwregRead s).2 :=
  blockInv_of_engineFrame (hwregRead_engineFrame s) hs (hwregRead_xferInv hs.xfer)

end Sys2Proof.Proofs
end

section
/-! Register writes keep the block's invariant (42_general_registers.md R280 to R336;
43_primitive_assembler.md R366; 45_privileged_registers.md R430 to R455). -/

namespace Sys2Proof.Proofs
open Sys2Proof.Machine

/-! ### General registers -/

/-- A store to any register but PRIM and TRXDIR. -/
theorem setReg_blockInv {s : State} {r : RegFile} (h : SameControl s.reg r) (hs : BlockInv s) :
    BlockInv (s.setReg r) where
  vertex := by
    show s.vq.length < vertsNeeded (primTypeOf r.prim)
    rw [h.1]
    exact hs.vertex
  xfer := xferInv_of_trxdir h.2 hs.xfer
  memory := hs.memory
  event := hs.event

/-- A PRIM write empties the queue, and every type needs a vertex (R282). -/
theorem putPrim_blockInv (v : Word64) {s : State} (hs : BlockInv s) :
    BlockInv ((s.setReg { s.reg with prim := v }).setVq []) where
  vertex := vertsNeeded_pos _
  xfer := xferInv_of_trxdir rfl hs.xfer
  memory := hs.memory
  event := hs.event

/-- After a commit the queue is short of a primitive again (R366). -/
theorem commitVertex_vertexInv (x y : BitVec 16) (z : BitVec 32) (kick : Bool) {s : State}
    (h : VertexInv s) : VertexInv (commitVertex x y z kick s) := by
  unfold VertexInv at h ⊢
  rw [commitVertex_vq, commitVertex_reg]
  split
  case isTrue hshort => simpa using hshort
  case isFalse => exact vertsKept_length (by simpa using h)

/-- A draw writes only the words of the rasterizer that are in bounds (R354). -/
theorem commitVertex_memoryInv (x y : BitVec 16) (z : BitVec 32) (kick : Bool) {s : State}
    (h : MemoryInv s.cfg s.vram) :
    MemoryInv (commitVertex x y z kick s).cfg (commitVertex x y z kick s).vram := by
  obtain ⟨hwf, hbelow⟩ := h
  rw [commitVertex_cfg]
  rcases commitVertex_vram x y z kick s with hv | ⟨ws, hv⟩ <;> rw [hv]
  · exact ⟨hwf, hbelow⟩
  · exact ⟨writeWords_wf _ ws hwf, writeWords_below _ ws hbelow⟩

theorem commitVertex_blockInv (x y : BitVec 16) (z : BitVec 32) (kick : Bool) {s : State}
    (hs : BlockInv s) : BlockInv (commitVertex x y z kick s) where
  vertex := commitVertex_vertexInv x y z kick hs.vertex
  xfer := by simpa using hs.xfer
  memory := commitVertex_memoryInv x y z kick hs.memory
  event := by simpa using hs.event

/-- A change of the privileged registers that leaves NFIELD and EDWINT clear. -/
theorem setPriv_blockInv {s : State} {p : PrivRegs} (hp : EventInv p) (hs : BlockInv s) :
    BlockInv (s.setPriv p) :=
  ⟨hs.vertex, hs.xfer, hs.memory, hp⟩

theorem putSignal_blockInv (v : Word64) {s : State} (hs : BlockInv s) :
    BlockInv (putSignal v s) := by
  obtain ⟨s0, hs0, p, h, hnfield, hedwint⟩ := putSignal_cases v s
  have hp : EventInv p := ⟨hnfield.trans hs.event.1, hedwint.trans hs.event.2⟩
  rw [h]
  rcases hs0 with rfl | rfl
  · exact setPriv_blockInv hp hs
  · exact setPriv_blockInv hp ((blockInv_raise _).mpr hs)

/-- The write of a general register, by what it can do (R280). -/
theorem putReg_blockInv (r : GReg) (v : Word64) {s : State} (hs : BlockInv s) :
    BlockInv (putReg r v s) := by
  rcases putReg_cases r v s with ⟨_, h, hsame⟩ | ⟨_, h⟩ | ⟨_, _, _, _, _, h, hsame⟩ | ⟨_, h⟩ |
    ⟨_, h⟩ | ⟨_, h⟩ | ⟨_, h⟩ | ⟨_, h⟩ | ⟨_, h⟩ <;> rw [h]
  · exact setReg_blockInv hsame hs
  · exact putPrim_blockInv v hs
  · exact commitVertex_blockInv _ _ _ _ (setReg_blockInv hsame hs)
  · exact hs
  · exact trxdirWrite_blockInv v hs
  · exact hwregWrite_blockInv v hs
  · exact putSignal_blockInv v hs
  · exact setPriv_blockInv hs.event hs
  · exact setPriv_blockInv hs.event hs

theorem writeReg_blockInv (id : BitVec 8) (v : Word64) (src : Src) {s : State} (hs : BlockInv s) :
    BlockInv (writeReg id v src s) := by
  rcases writeReg_cases id v src s with ⟨r, _, h⟩ | ⟨_, h⟩ <;> rw [h]
  · exact putReg_blockInv r v hs
  · exact (blockInv_raise _).mpr hs

theorem writeReg_inv (id : BitVec 8) (v : Word64) (src : Src) {s : State} (hs : Inv s) :
    Inv (writeReg id v src s) := by
  obtain ⟨hdec, hblock⟩ := inv_iff.mp hs
  exact inv_iff.mpr ⟨by rwa [writeReg_dec], writeReg_blockInv id v src hblock⟩

/-! ### Privileged registers -/

/-- An update of the privileged registers that leaves NFIELD and EDWINT clear. -/
theorem setPriv_inv {s : State} {p : PrivRegs} (hp : EventInv p) (hs : Inv s) :
    Inv (s.setPriv p) := by
  obtain ⟨hdec, hblock⟩ := inv_iff.mp hs
  exact inv_iff.mpr ⟨hdec, setPriv_blockInv hp hblock⟩

theorem eventInv_of_inv {s : State} (hs : Inv s) : EventInv s.priv := (inv_iff.mp hs).2.event

/-- An acknowledge only clears flags (R450). -/
theorem csrAck_eventInv (w : Word32) {p : PrivRegs} (hp : EventInv p) : EventInv (csrAck w p) := by
  obtain ⟨hnfield, hedwint⟩ := hp
  exact ⟨hnfield, by simp [csrAck, hedwint]⟩

theorem csrWrite_inv (w : Word32) {s : State} (hs : Inv s) : Inv (csrWrite w s) := by
  rcases csrWrite_cases w s with ⟨_, h⟩ | ⟨_, h⟩ <;> rw [h]
  · exact setPriv_inv (csrAck_eventInv w (eventInv_of_inv hs)) hs
  · exact resetBlock_inv s

theorem privWrite_inv (r : PrivReg) (w m : Word64) {s : State} (hs : Inv s) :
    Inv (privWrite r w m s) := by
  rcases privWrite_cases r w m s with ⟨_, h⟩ | ⟨_, h⟩ <;> rw [h]
  · obtain ⟨hnfield, hedwint⟩ := privStore_flags r w m s.priv
    obtain ⟨hn, he⟩ := eventInv_of_inv hs
    exact setPriv_inv ⟨hnfield.trans hn, hedwint.trans he⟩ hs
  · exact csrWrite_inv _ hs

theorem privAccess_inv (r : PrivReg) (acc : PrivAccess) {s : State} (hs : Inv s) :
    Inv (privAccess r acc s) := by
  unfold privAccess
  split
  · exact privWrite_inv _ _ _ hs
  · exact privWrite_inv _ _ _ hs
  · exact privWrite_inv _ _ _ hs
  · exact (inv_setResult _).mpr hs

theorem privUnmapped_inv (op : HostOp) (addr : Word32) {s : State} (hs : Inv s) :
    Inv (privUnmapped op addr s) := by
  cases op <;> simpa [privUnmapped] using hs

end Sys2Proof.Proofs
end

section
/-! The packet decoder keeps the invariant (40_gif_decoder.md R200 to R219; 10_state.md R23). -/

namespace Sys2Proof.Proofs
open Sys2Proof.Machine

/-! ### Payload units -/

/-- What a PACKED descriptor can do: a register write, ST with Q latched, the reserved
descriptor's error, or nothing (41_packed.md R250). -/
theorem packedWrite_cases (d : BitVec 4) (q : Qword) (s : State) :
    (∃ id v src, packedWrite d q s = writeReg id v src s) ∨
    (∃ v, packedWrite d q s = latchQ (pkSt_qc q) (writeReg 0x02#8 v .packed s)) ∨
    packedWrite d q s = raise (.unknownReg .packed 0x0B#8) s ∨
    packedWrite d q s = s := by
  unfold packedWrite
  split
  case h_3 => exact .inr (.inl ⟨_, rfl⟩)
  case h_12 => exact .inr (.inr (.inl rfl))
  case h_16 => exact .inr (.inr (.inr rfl))
  all_goals exact .inl ⟨_, _, _, rfl⟩

theorem packedWrite_blockInv (d : BitVec 4) (q : Qword) {s : State} (hs : BlockInv s) :
    BlockInv (packedWrite d q s) := by
  rcases packedWrite_cases d q s with ⟨_, _, _, h⟩ | ⟨_, h⟩ | h | h <;> rw [h]
  · exact writeReg_blockInv _ _ _ hs
  · exact (blockInv_setDec _).mpr (writeReg_blockInv _ _ _ hs)
  · exact (blockInv_raise _).mpr hs
  · exact hs

/-- A PACKED descriptor's decoder, whichever of the two it is. -/
theorem packedWrite_dec_eq (d : BitVec 4) (q : Qword) (s : State) :
    ∃ c, (packedWrite d q s).dec = { s.dec with packedQ := c } := by
  rcases packedWrite_dec d q s with h | ⟨_, h⟩
  · exact ⟨s.dec.packedQ, h⟩
  · exact ⟨_, h⟩

theorem packedStep_inv (q : Qword) {s : State} (hs : Inv s) (hp : s.dec.decState = .processing)
    (hf : formatOf s.dec.tag.flg ≠ .image) : Inv (packedStep q s) := by
  obtain ⟨hdec, hblock⟩ := inv_iff.mp hs
  obtain ⟨c, hc⟩ := packedWrite_dec_eq (nextDescriptor s.dec) q s
  refine inv_iff.mpr ⟨?_, (blockInv_setDec _).mpr (packedWrite_blockInv _ q hblock)⟩
  show DecoderInv (countUnit (packedWrite (nextDescriptor s.dec) q s).dec)
  rw [hc]
  exact countUnit_inv (d := { s.dec with packedQ := c }) hdec hp hf

theorem reglistWrite_blockInv (d : BitVec 4) (v : Word64) {s : State} (hs : BlockInv s) :
    BlockInv (reglistWrite d v s) := by
  unfold reglistWrite
  split
  · exact hs
  · exact writeReg_blockInv _ _ _ hs

/-- A slot's effect on the decoder is its count (R212). -/
@[simp] theorem slotStep_dec (v : Word64) (s : State) :
    (slotStep v s).dec = countUnit s.dec := by
  simp [slotStep]

theorem slotStep_inv (v : Word64) {s : State} (hs : Inv s) (hp : s.dec.decState = .processing)
    (hf : formatOf s.dec.tag.flg ≠ .image) : Inv (slotStep v s) := by
  obtain ⟨hdec, hblock⟩ := inv_iff.mp hs
  refine inv_iff.mpr ⟨?_, (blockInv_setDec _).mpr (reglistWrite_blockInv _ v hblock)⟩
  show DecoderInv (slotStep v s).dec
  rw [slotStep_dec]
  exact countUnit_inv hdec hp hf

/-- A unit that leaves payload leaves the decoder inside the same tag. -/
theorem countUnit_of_dataLeft {d : Decoder} (h : (countUnit d).dataLeft ≠ 0) :
    (countUnit d).decState = d.decState ∧ (countUnit d).tag = d.tag := by
  unfold countUnit at h ⊢
  dsimp only at h ⊢
  split at h
  · exact absurd rfl h
  · rw [if_neg ‹_›]
    split <;> exact ⟨rfl, rfl⟩

theorem reglistStep_inv (q : Qword) {s : State} (hs : Inv s) (hp : s.dec.decState = .processing)
    (hf : formatOf s.dec.tag.flg ≠ .image) : Inv (reglistStep q s) := by
  have hlow := slotStep_inv (q.extractLsb' 0 64) hs hp hf
  unfold reglistStep
  dsimp only
  split
  · exact hlow
  · rename_i hleft
    rw [slotStep_dec] at hleft
    obtain ⟨hstate, htag⟩ := countUnit_of_dataLeft hleft
    refine slotStep_inv _ hlow ?_ ?_ <;> rw [slotStep_dec]
    · exact hstate.trans hp
    · rwa [htag]

theorem imageData_blockInv (q : Qword) {s : State} (hs : BlockInv s) :
    BlockInv (imageData q s) := by
  have hlow := hwregWrite_blockInv (q.extractLsb' 0 64) hs
  unfold imageData
  dsimp only
  split
  · exact hlow
  · exact hwregWrite_blockInv _ hlow

theorem imageStep_inv (q : Qword) {s : State} (hs : Inv s) (hp : s.dec.decState = .processing)
    (hf : formatOf s.dec.tag.flg = .image) : Inv (imageStep q s) := by
  obtain ⟨hdec, hblock⟩ := inv_iff.mp hs
  refine inv_iff.mpr ⟨?_, (blockInv_setDec _).mpr (imageData_blockInv q hblock)⟩
  show DecoderInv (countImage (imageData q s).dec)
  rw [imageData_dec]
  exact countImage_inv hdec hp hf

/-! ### Ingress -/

theorem payloadStep_inv (q : Qword) {s : State} (hs : Inv s) (hp : s.dec.decState = .processing) :
    Inv (payloadStep q s) := by
  unfold payloadStep
  cases hf : formatOf s.dec.tag.flg
  case packed => exact packedStep_inv q hs hp (by rw [hf]; decide)
  case reglist => exact reglistStep_inv q hs hp (by rw [hf]; decide)
  case image => exact imageStep_inv q hs hp hf

/-- A tag leaves counters that its own fields determine, whatever the decoder held (R204 to
R210). -/
theorem readTag_inv (path : Path) (flg : BitVec 2) (t : TagFields) {s : State} (hs : BlockInv s) :
    Inv (readTag path flg t s) := by
  have hlatched : BlockInv (s.setDec (latchTag path flg t s.dec)) := (blockInv_setDec _).mpr hs
  unfold readTag
  dsimp only
  rw [inv_iff, blockInv_setDec, State.setDec_dec]
  split
  · rw [writeReg_dec]
    exact ⟨startPayload_inv .., writeReg_blockInv _ _ _ hlatched⟩
  · exact ⟨startPayload_inv .., hlatched⟩

theorem onQword_inv (path : Path) (q : Qword) {s : State} (hs : Inv s) :
    Inv (onQword path q s) := by
  rcases onQword_cases path q s with ⟨_, _, h⟩ | ⟨_, ⟨_, h⟩ | ⟨hp, h⟩⟩ <;> rw [h]
  · exact (inv_raise _).mpr hs
  · exact readTag_inv _ _ _ (inv_iff.mp hs).2
  · exact payloadStep_inv q hs hp

theorem endOfStream_inv (path : Path) {s : State} (hs : Inv s) : Inv (endOfStream path s) := by
  rcases endOfStream_cases path s with h | ⟨e, h⟩ <;> rw [h]
  · exact hs
  · exact (inv_raise e).mpr hs

end Sys2Proof.Proofs
end

section
/-! Every host call, and with it every step, keeps the invariant (00_scope.md R7). -/

namespace Sys2Proof.Proofs
open Sys2Proof.Machine

/-! ### Register accesses by address (45_privileged_registers.md R432 to R434) -/

theorem hostWrite64_inv (addr : Word32) (v : Word64) {s : State} (hs : Inv s) :
    Inv (hostWrite64 addr v s) := by
  unfold hostWrite64
  split
  · exact writeReg_inv _ _ _ hs
  · split
    · exact privAccess_inv _ _ hs
    · exact privUnmapped_inv _ _ hs
    · exact privUnmapped_inv _ _ hs

theorem hostWrite32_inv (addr v : Word32) {s : State} (hs : Inv s) :
    Inv (hostWrite32 addr v s) := by
  unfold hostWrite32
  split
  · exact privAccess_inv _ _ hs
  · exact privUnmapped_inv _ _ hs

theorem hostRead32_inv (addr : Word32) {s : State} (hs : Inv s) : Inv (hostRead32 addr s) := by
  unfold hostRead32
  split
  · exact privAccess_inv _ _ hs
  · exact privUnmapped_inv _ _ hs

/-! ### The other calls -/

/-- A read of the transfer port leaves the decoder. -/
theorem hwregRead_dec (s : State) : (hwregRead s).2.dec = s.dec := by
  rcases hwregRead_cases s with ⟨_, h⟩ | ⟨_, _, s1, rfl, h⟩ <;> rw [h]
  · rfl
  · have hloop := (Moves.givePixels (s.xfer.total - s.xfer.pixels) s).dec
    dsimp only
    split <;> exact hloop

theorem hostReadHwreg_inv {s : State} (hs : Inv s) : Inv (hostReadHwreg s) := by
  obtain ⟨hdec, hblock⟩ := inv_iff.mp hs
  refine (inv_setResult _).mpr (inv_iff.mpr ⟨?_, hwregRead_blockInv hblock⟩)
  rwa [hwregRead_dec]

/-- A blanking event sets HSINT, or VSINT and FIELD, and neither of the two flags (R455). -/
theorem hostVideoEvent_inv (kind : VideoEvent) {s : State} (hs : Inv s) :
    Inv (hostVideoEvent kind s) := by
  cases kind
  case hblank => exact setPriv_inv (eventInv_of_inv hs) hs
  case vblankStart => exact setPriv_inv (eventInv_of_inv hs) hs

/-- A displayed pixel is read with its errors reported (R457). -/
theorem framePixel_inv (x y : Nat) {s : State} (hs : Inv s) : Inv (framePixel x y s).2 := by
  unfold framePixel
  dsimp only
  rcases pixRead_cases _ _ _ _ _ s with ⟨e, _, h⟩ | ⟨_, _, h⟩ <;> rw [h]
  · exact (inv_raise e).mpr hs
  · exact hs

theorem framePixels_inv (w n k : Nat) {s : State} (hs : Inv s) : Inv (framePixels w n k s).2 := by
  induction n generalizing k s with
  | zero => exact hs
  | succ n ih => exact ih (k + 1) (framePixel_inv _ _ hs)

theorem hostGetFramebuffer_inv {s : State} (hs : Inv s) : Inv (hostGetFramebuffer s) :=
  (inv_setResult _).mpr (framePixels_inv _ _ _ hs)

/-! ### The step -/

/-- What a host call makes of the state in which it is performed. -/
def callEffect (c : Call) (s : State) : State :=
  match c with
  | .feedGif q => onQword .feed q s
  | .sendPath3 q => onQword .path3 q s
  | .endOfStream path => endOfStream path s
  | .write64 addr v => hostWrite64 addr v s
  | .write32 addr v => hostWrite32 addr v s
  | .read32 addr => hostRead32 addr s
  | .readHwreg => hostReadHwreg s
  | .videoEvent kind => hostVideoEvent kind s
  | .reset => resetBlock s
  | .getDisplayResolution =>
    setResult (.size (displaySize s.priv).1 (displaySize s.priv).2) s
  | .getInternalResolution =>
    setResult (.size (internalSize s.priv).1 (internalSize s.priv).2) s
  | .getFramebuffer => hostGetFramebuffer s

/-- Every host call completes (60_exceptions.md R472). -/
theorem exec_call (c : Call) (s : State) : exec c.instr s = .next (callEffect c s) := by
  cases c <;> rfl

theorem callEffect_inv (c : Call) {s : State} (hs : Inv s) : Inv (callEffect c s) := by
  cases c
  case feedGif q => exact onQword_inv _ q hs
  case sendPath3 q => exact onQword_inv _ q hs
  case endOfStream path => exact endOfStream_inv path hs
  case write64 addr v => exact hostWrite64_inv addr v hs
  case write32 addr v => exact hostWrite32_inv addr v hs
  case read32 addr => exact hostRead32_inv addr hs
  case readHwreg => exact hostReadHwreg_inv hs
  case videoEvent kind => exact hostVideoEvent_inv kind hs
  case reset => exact resetBlock_inv s
  case getDisplayResolution => exact (inv_setResult _).mpr hs
  case getInternalResolution => exact (inv_setResult _).mpr hs
  case getFramebuffer => exact hostGetFramebuffer_inv hs

/-- Settles O6, by the two cases of the inbox: with no pending call the state stays, and a pending
call is performed by `callEffect`. -/
theorem stepKeepsInv : Obligations.StepKeepsInv := by
  unfold Obligations.StepKeepsInv
  intro s t hs hstep
  cases hinbox : s.inbox with
  | nil =>
    rw [step_of_inbox_nil hinbox] at hstep
    cases hstep
    exact hs
  | cons c rest =>
    rw [step_of_inbox_cons hinbox, exec_call] at hstep
    cases hstep
    exact callEffect_inv c ((inv_beginCall rest).mpr hs)

end Sys2Proof.Proofs
end

section
/-! The family Memory, pixel accesses (20_memory.md R104, R114 to R116, R120; 60_exceptions.md
R469): which check an access fails first, and what a pixel write does to the bits of its word. -/

namespace Sys2Proof.Proofs
open Sys2Proof.Machine Sys2Proof.Claims

/-! ### The checks of `locate`, one equation for each way it ends -/

/-- A code that the table of R104 does not list is invalid in the model. -/
theorem psmOf_eq_none_of_modeBits {code : BitVec 6} (h : modeBits code = none) :
    psmOf code = none := by
  revert code
  decide

/-- The modes with pages 128 pixels wide are those of the codes 0x13 and 0x14 (R114). -/
theorem isWidePage_iff {code : BitVec 6} {p : Psm} (h : psmOf code = some p) :
    isWidePage p = true ↔ code = 0x13#6 ∨ code = 0x14#6 := by
  revert code
  cases p <;> decide

theorem locate_of_invalid {cfg : Params} {code : BitVec 6} (bp bw x y : Nat)
    (h : psmOf code = none) : locate cfg code bp bw x y = .error (.unmodelled (.psm code)) := by
  unfold locate
  rw [h]

theorem locate_of_oddWidth {cfg : Params} {code : BitVec 6} {p : Psm} {bw : Nat} (bp x y : Nat)
    (hp : psmOf code = some p) (hwide : isWidePage p = true) (hpolicy : cfg.oddBwPolicy = .refuse)
    (hodd : bw % 2 = 1) : locate cfg code bp bw x y = .error (.unmodelled (.oddWidth bw)) := by
  unfold locate
  rw [hp]
  exact if_pos (by simp [hwide, hpolicy, hodd])

theorem locate_of_outside {cfg : Params} {code : BitVec 6} {p : Psm} {bp bw x y : Nat}
    (hp : psmOf code = some p)
    (hwidth : ¬ (cfg.oddBwPolicy = .refuse ∧ bw % 2 = 1 ∧ isWidePage p = true))
    (hout : cfg.vramWords ≤ (pixelLoc p bp bw x y).word) :
    locate cfg code bp bw x y = .error (.bounds code x y (pixelLoc p bp bw x y).word) := by
  have hbounds : inBounds cfg (pixelLoc p bp bw x y).word = false := by
    simpa [inBounds] using hout
  have hpasses : (isWidePage p && cfg.oddBwPolicy == .refuse && bw % 2 == 1) ≠ true := by
    intro h
    simp only [Bool.and_eq_true, beq_iff_eq] at h
    obtain ⟨⟨hwide, hpolicy⟩, hodd⟩ := h
    exact hwidth ⟨hpolicy, hodd, hwide⟩
  unfold locate
  rw [hp]
  dsimp only
  rw [if_neg hpasses, if_neg (by simp [hbounds])]

/-! ### A rejected access -/

/-- One error raised is one record of the report, with the mark where it is an E_UNMODELLED. -/
theorem raise_eq_reporting (e : Err) (s : State) : raise e s = reporting [e] s := by
  cases e <;> simp [raise, reporting, isUnmodelled, errCode]

/-- A failed check is the whole effect of the access, of a write and of a read (R115, R116). -/
theorem pixel_access_rejected {code : BitVec 6} {bp bw x y : Nat} {s : State} {e : Err}
    (h : locate s.cfg code bp bw x y = .error e) (v : Word32) :
    pixWrite code bp bw x y v s = reporting [e] s ∧
    pixRead code bp bw x y s = ((0#32, false), reporting [e] s) := by
  unfold pixWrite pixRead
  rw [h, ← raise_eq_reporting]
  exact ⟨rfl, rfl⟩

/-- Settles O37: each check that fails first is one equation of `locate`, and a rejected access is
its error alone. -/
theorem pixelChecksInOrder : Obligations.PixelChecksInOrder := by
  unfold Obligations.PixelChecksInOrder
  refine fun code bp bw x y v s => ⟨fun hcode => ?psm, fun hpolicy hodd hwide => ?oddWidth,
    fun p hp hwidth hout => ?bounds⟩
  case psm =>
    exact pixel_access_rejected (locate_of_invalid _ _ _ _ (psmOf_eq_none_of_modeBits hcode)) v
  case oddWidth =>
    obtain ⟨p, hp⟩ : ∃ p, psmOf code = some p := by
      rcases hwide with rfl | rfl
      · exact ⟨.t8, rfl⟩
      · exact ⟨.t4, rfl⟩
    exact pixel_access_rejected
      (locate_of_oddWidth _ _ _ hp ((isWidePage_iff hp).mpr hwide) hpolicy hodd) v
  case bounds =>
    rw [← isWidePage_iff hp] at hwidth
    exact pixel_access_rejected (locate_of_outside hp hwidth hout) v

/-! ### The bits of a pixel -/

/-- A lane of a word of 32 bits ends inside the word. -/
theorem laneLoc_fits {k width : Nat} (word n : Nat) (hk : 0 < k) (h : width * k = 32) :
    (laneLoc (word, n % k) width).lo + width ≤ 32 := by
  show width * (n % k) + width ≤ 32
  calc width * (n % k) + width = width * (n % k + 1) := (Nat.mul_succ _ _).symm
    _ ≤ width * k := Nat.mul_le_mul_left _ (Nat.mod_lt n hk)
    _ = 32 := h

/-- A pixel lies inside its word, in every mode. -/
theorem pixelLoc_fits (p : Psm) (bp bw x y : Nat) :
    (pixelLoc p bp bw x y).lo + (pixelLoc p bp bw x y).width ≤ 32 := by
  cases p
  case ct16 | ct16s | z16 | z16s => exact laneLoc_fits _ _ (by decide) rfl
  case t8 => exact laneLoc_fits _ _ (by decide) rfl
  case t4 => exact laneLoc_fits _ _ (by decide) rfl
  all_goals simp [pixelLoc]

/-- The mask of a pixel's width. -/
theorem getLsbD_widthMask {w i : Nat} (hi : i < 32) :
    (BitVec.ofNat 32 (2 ^ w - 1)).getLsbD i = decide (i < w) := by
  simp only [BitVec.getLsbD_ofNat, Nat.testBit_two_pow_sub_one, hi, decide_true, Bool.true_and]

theorem getLsbD_pixelMask {l : PixelLoc} {i : Nat} (hi : i < 32) :
    (pixelMask l).getLsbD i = decide (l.lo ≤ i ∧ i < l.lo + l.width) := by
  have hrel : i - l.lo < 32 := by omega
  simp only [pixelMask, BitVec.getLsbD_shiftLeft, getLsbD_widthMask hrel]
  grind

theorem getLsbD_getPixel {l : PixelLoc} (word : Word32) {i : Nat} (hi : i < 32) :
    (getPixel l word).getLsbD i = (decide (i < l.width) && word.getLsbD (l.lo + i)) := by
  rw [getPixel, BitVec.getLsbD_and, getLsbD_widthMask hi, BitVec.getLsbD_ushiftRight, Bool.and_comm]

theorem getLsbD_putPixel {l : PixelLoc} (word p : Word32) {i : Nat} (hi : i < 32) :
    (putPixel l word p).getLsbD i =
      if l.lo ≤ i ∧ i < l.lo + l.width then p.getLsbD (i - l.lo) else word.getLsbD i := by
  simp only [putPixel, BitVec.getLsbD_or, BitVec.getLsbD_and, BitVec.getLsbD_not,
    BitVec.getLsbD_shiftLeft, getLsbD_pixelMask hi, hi]
  grind

/-- A pixel put into a word is read back from it as its low bits. -/
theorem getLsbD_getPixel_putPixel {l : PixelLoc} (hfits : l.lo + l.width ≤ 32) (word p : Word32)
    {i : Nat} (hi : i < 32) :
    (getPixel l (putPixel l word p)).getLsbD i = (decide (i < l.width) && p.getLsbD i) := by
  rw [getLsbD_getPixel _ hi]
  by_cases hw : i < l.width
  · rw [getLsbD_putPixel _ _ (by omega), if_pos (by omega), Nat.add_sub_cancel_left]
  · simp [hw]

/-! ### An access that passes its checks -/

theorem pixWrite_of_locate {code : BitVec 6} {bp bw x y : Nat} {s : State} {l : PixelLoc}
    (h : locate s.cfg code bp bw x y = .ok l) (v : Word32) :
    pixWrite code bp bw x y v s =
      { s with vram := writeWord s.vram l.word (putPixel l (readWord s.vram l.word) v) } := by
  unfold pixWrite
  rw [h]
  rfl

theorem pixRead_of_locate {code : BitVec 6} {bp bw x y : Nat} {s : State} {l : PixelLoc}
    (h : locate s.cfg code bp bw x y = .ok l) :
    pixRead code bp bw x y s = ((getPixel l (readWord s.vram l.word), true), s) := by
  unfold pixRead
  rw [h]

/-- Settles O38: the write replaces one word by `putPixel`, and memory reads back the word. -/
theorem pixelReadsBackAndKeepsTheRest : Obligations.PixelReadsBackAndKeepsTheRest := by
  unfold Obligations.PixelReadsBackAndKeepsTheRest
  intro code bp bw x y v s l hwf hl
  have hfits : l.lo + l.width ≤ 32 := by
    obtain ⟨p, _, rfl, _⟩ := locate_ok hl
    exact pixelLoc_fits p bp bw x y
  have hback := readWord_writeWord_same l.word (putPixel l (readWord s.vram l.word) v) hwf
  refine ⟨_, pixWrite_of_locate hl v, fun i hi => ?bits,
    ⟨_, pixRead_of_locate hl, fun i hi => ?read⟩, fun a ha => readByte_writeWord_other _ ha⟩
  case bits => rw [hback, getLsbD_putPixel _ _ hi]
  case read => dsimp only; rw [hback, getLsbD_getPixel_putPixel hfits _ _ hi]

end Sys2Proof.Proofs
end

section
/-! The family Memory, the swizzle (20_memory.md R105 to R113): a page is a grid of blocks, a block
a grid of pixels, each numbered by a table without repeats, so the pixels of a page are numbered
without repeats. -/

namespace Sys2Proof.Proofs
open Sys2Proof.Machine Sys2Proof.Claims

/-! ### Tables -/

/-- A grid of numbers, each below the size of the grid and listed once. -/
structure IsNumbering (t : List (List Nat)) (rows cols : Nat) : Prop where
  length_eq : t.length = rows
  row_length : ∀ r ∈ t, r.length = cols
  lt : ∀ r ∈ t, ∀ n ∈ r, n < rows * cols
  nodup : t.flatten.Nodup

theorem tableAt_eq_getElem {t : List (List Nat)} {rows cols : Nat} (h : IsNumbering t rows cols)
    {i j : Nat} (hi : i < rows) (hj : j < cols) :
    ∃ (hi' : i < t.length) (hj' : j < t[i].length), tableAt t i j = t[i][j] := by
  have hi' : i < t.length := h.length_eq ▸ hi
  have hj' : j < t[i].length := (h.row_length _ (List.getElem_mem hi')).symm ▸ hj
  refine ⟨hi', hj', ?_⟩
  unfold tableAt
  rw [List.getD_eq_getElem _ _ hi', List.getD_eq_getElem _ _ hj']

theorem tableAt_lt {t : List (List Nat)} {rows cols : Nat} (h : IsNumbering t rows cols)
    {i j : Nat} (hi : i < rows) (hj : j < cols) : tableAt t i j < rows * cols := by
  obtain ⟨hi', hj', heq⟩ := tableAt_eq_getElem h hi hj
  rw [heq]
  exact h.lt _ (List.getElem_mem hi') _ (List.getElem_mem hj')

/-- No two places of a numbering hold the same number: not in two rows, as the rows are disjoint,
and not in one. -/
theorem tableAt_inj {t : List (List Nat)} {rows cols : Nat} (h : IsNumbering t rows cols)
    {i j i' j' : Nat} (hi : i < rows) (hj : j < cols) (hi' : i' < rows) (hj' : j' < cols)
    (heq : tableAt t i j = tableAt t i' j') : i = i' ∧ j = j' := by
  obtain ⟨ht, hr, hat⟩ := tableAt_eq_getElem h hi hj
  obtain ⟨ht', hr', hat'⟩ := tableAt_eq_getElem h hi' hj'
  rw [hat, hat'] at heq
  obtain ⟨hrow, hdisjoint⟩ := List.nodup_flatten.mp h.nodup
  have hii : i = i' := by
    by_contra hne
    rcases Nat.lt_or_gt_of_ne hne with hlt | hlt
    · exact List.pairwise_iff_getElem.mp hdisjoint i i' ht ht' hlt (List.getElem_mem hr)
        (heq ▸ List.getElem_mem hr')
    · exact List.pairwise_iff_getElem.mp hdisjoint i' i ht' ht hlt (List.getElem_mem hr')
        (heq ▸ List.getElem_mem hr)
  subst hii
  exact ⟨rfl, (hrow _ (List.getElem_mem ht)).getElem_inj_iff.mp heq⟩

/-- No number of a list is listed twice, or is among the bits of `seen`: one pass over the list. -/
def allFresh (seen : Nat) : List Nat → Bool
  | [] => true
  | n :: rest => !seen.testBit n && allFresh (seen ||| 2 ^ n) rest

theorem nodup_of_allFresh {l : List Nat} {seen : Nat} (h : allFresh seen l = true) :
    l.Nodup ∧ ∀ n ∈ l, seen.testBit n = false := by
  induction l generalizing seen with
  | nil => exact ⟨List.nodup_nil, fun n hn => absurd hn List.not_mem_nil⟩
  | cons m rest ih =>
    obtain ⟨hm, hrest⟩ := Bool.and_eq_true_iff.mp h
    obtain ⟨hnodup, hseen⟩ := ih hrest
    have hone (n : Nat) (hn : n ∈ rest) : seen.testBit n = false ∧ ¬ m = n := by
      simpa [Nat.testBit_or, Nat.testBit_two_pow] using hseen n hn
    refine ⟨List.nodup_cons.mpr ⟨fun hmem => (hone m hmem).2 rfl, hnodup⟩,
      List.forall_mem_cons.mpr ⟨by simpa using hm, fun n hn => (hone n hn).1⟩⟩

/-- `IsNumbering` as a check that runs through the table. -/
def numbersGrid (t : List (List Nat)) (rows cols : Nat) : Bool :=
  t.length == rows && t.all (fun r => r.length == cols && r.all (· < rows * cols)) &&
    allFresh 0 t.flatten

theorem isNumbering_of_numbersGrid {t : List (List Nat)} {rows cols : Nat}
    (h : numbersGrid t rows cols = true) : IsNumbering t rows cols := by
  obtain ⟨hshape, hfresh⟩ := Bool.and_eq_true_iff.mp h
  obtain ⟨hlength, hall⟩ := Bool.and_eq_true_iff.mp hshape
  have hrow (r : List Nat) (hr : r ∈ t) : r.length = cols ∧ ∀ n ∈ r, n < rows * cols := by
    simpa using List.all_eq_true.mp hall r hr
  exact ⟨eq_of_beq hlength, fun r hr => (hrow r hr).1, fun r hr => (hrow r hr).2,
    (nodup_of_allFresh hfresh).1⟩

/-! The tables of R106 and R107, checked entry by entry. -/

theorem tBT32_isNumbering : IsNumbering tBT32 4 8 :=
  isNumbering_of_numbersGrid (by decide +kernel)
theorem tBTZ32_isNumbering : IsNumbering tBTZ32 4 8 :=
  isNumbering_of_numbersGrid (by decide +kernel)
theorem tBT16_isNumbering : IsNumbering tBT16 8 4 :=
  isNumbering_of_numbersGrid (by decide +kernel)
theorem tBT16S_isNumbering : IsNumbering tBT16S 8 4 :=
  isNumbering_of_numbersGrid (by decide +kernel)
theorem tBTZ16_isNumbering : IsNumbering tBTZ16 8 4 :=
  isNumbering_of_numbersGrid (by decide +kernel)
theorem tBTZ16S_isNumbering : IsNumbering tBTZ16S 8 4 :=
  isNumbering_of_numbersGrid (by decide +kernel)
theorem tBT8_isNumbering : IsNumbering tBT8 4 8 :=
  isNumbering_of_numbersGrid (by decide +kernel)
theorem tBT4_isNumbering : IsNumbering tBT4 8 4 :=
  isNumbering_of_numbersGrid (by decide +kernel)
theorem tCT32_isNumbering : IsNumbering tCT32 8 8 :=
  isNumbering_of_numbersGrid (by decide +kernel)
theorem tCT16_isNumbering : IsNumbering tCT16 8 16 :=
  isNumbering_of_numbersGrid (by decide +kernel)
theorem tCT8_isNumbering : IsNumbering tCT8 16 16 :=
  isNumbering_of_numbersGrid (by decide +kernel)
theorem tCT4_isNumbering : IsNumbering tCT4 16 32 :=
  isNumbering_of_numbersGrid (by decide +kernel)

/-! ### Pages -/

/-- The number of a pixel in units of its mode (words, halfwords, bytes or nibbles), from the first
block of its page: blocks of `cr` by `cc` pixels, `br` by `bc` of them in a page. -/
def unitIndex (bt ct : List (List Nat)) (br bc cr cc base x y : Nat) : Nat :=
  cr * cc * (base + tableAt bt (y / cr % br) (x / cc % bc)) + tableAt ct (y % cr) (x % cc)

/-- A coordinate is its page, its block in the page and its place in the block. -/
theorem eq_of_page_block_place {z z' c b : Nat} (hpage : z / (c * b) = z' / (c * b))
    (hblock : z / c % b = z' / c % b) (hplace : z % c = z' % c) : z = z' := by
  have hquot : z / c = z' / c := by
    rw [← Nat.div_add_mod (z / c) b, ← Nat.div_add_mod (z' / c) b, Nat.div_div_eq_div_mul,
      Nat.div_div_eq_div_mul, hpage, hblock]
  rw [← Nat.div_add_mod z c, ← Nat.div_add_mod z' c, hquot, hplace]

/-- A number of two digits determines them. -/
theorem digits_eq {n a a' d d' : Nat} (hd : d < n) (hd' : d' < n) (h : n * a + d = n * a' + d') :
    a = a' ∧ d = d' := by
  have hmod := congrArg (· % n) h
  simp only [Nat.mul_add_mod, Nat.mod_eq_of_lt hd, Nat.mod_eq_of_lt hd'] at hmod
  subst hmod
  exact ⟨Nat.eq_of_mul_eq_mul_left (Nat.zero_lt_of_lt hd) (Nat.add_right_cancel h), rfl⟩

/-- The pixels of a page have different numbers. -/
theorem unitIndex_inj {bt ct : List (List Nat)} {br bc cr cc base x y x' y' : Nat}
    (hbt : IsNumbering bt br bc) (hct : IsNumbering ct cr cc)
    (hpos : 0 < br ∧ 0 < bc ∧ 0 < cr ∧ 0 < cc)
    (hx : x / (cc * bc) = x' / (cc * bc)) (hy : y / (cr * br) = y' / (cr * br))
    (h : unitIndex bt ct br bc cr cc base x y = unitIndex bt ct br bc cr cc base x' y') :
    x = x' ∧ y = y' := by
  obtain ⟨hbr, hbc, hcr, hcc⟩ := hpos
  obtain ⟨hblock, hplace⟩ := digits_eq (tableAt_lt hct (Nat.mod_lt _ hcr) (Nat.mod_lt _ hcc))
    (tableAt_lt hct (Nat.mod_lt _ hcr) (Nat.mod_lt _ hcc)) h
  obtain ⟨hby, hbx⟩ := tableAt_inj hbt (Nat.mod_lt _ hbr) (Nat.mod_lt _ hbc) (Nat.mod_lt _ hbr)
    (Nat.mod_lt _ hbc) (Nat.add_left_cancel hblock)
  obtain ⟨hpy, hpx⟩ := tableAt_inj hct (Nat.mod_lt _ hcr) (Nat.mod_lt _ hcc) (Nat.mod_lt _ hcr)
    (Nat.mod_lt _ hcc) hplace
  exact ⟨eq_of_page_block_place hx hbx hpx, eq_of_page_block_place hy hby hpy⟩

/-! ### The four families of modes (R110 to R113) -/

theorem addr32_eq (bt : List (List Nat)) (bp bw x y : Nat) : addr32 bt bp bw x y =
    unitIndex bt tCT32 4 8 8 8 (bp + 32 * (x / 64 + y / 32 * bw)) x y := rfl

theorem addr16_eq (bt : List (List Nat)) (bp bw x y : Nat) : addr16 bt bp bw x y =
    (unitIndex bt tCT16 8 4 8 16 (bp + 32 * (x / 64 + y / 64 * bw)) x y / 2,
      unitIndex bt tCT16 8 4 8 16 (bp + 32 * (x / 64 + y / 64 * bw)) x y % 2) := rfl

theorem addr8_eq (bp bw x y : Nat) : addr8 bp bw x y =
    (unitIndex tBT8 tCT8 4 8 16 16 (bp + 32 * (x / 128 + y / 64 * bw2 bw)) x y / 4,
      unitIndex tBT8 tCT8 4 8 16 16 (bp + 32 * (x / 128 + y / 64 * bw2 bw)) x y % 4) := rfl

theorem addr4_eq (bp bw x y : Nat) : addr4 bp bw x y =
    (unitIndex tBT4 tCT4 8 4 16 32 (bp + 32 * (x / 128 + y / 128 * bw2 bw)) x y / 8,
      unitIndex tBT4 tCT4 8 4 16 32 (bp + 32 * (x / 128 + y / 128 * bw2 bw)) x y % 8) := rfl

/-- A unit is found again from its word and its lane. -/
theorem eq_of_laneLoc {n n' k width : Nat} (hw : 0 < width)
    (h : laneLoc (n / k, n % k) width = laneLoc (n' / k, n' % k) width) : n = n' := by
  obtain ⟨hword, hlo, _⟩ := PixelLoc.mk.inj h
  dsimp only at hword hlo
  rw [← Nat.div_add_mod n k, ← Nat.div_add_mod n' k, hword, Nat.eq_of_mul_eq_mul_left hw hlo]

theorem addr32_inj {bt : List (List Nat)} (hbt : IsNumbering bt 4 8) {bp bw x y x' y' : Nat}
    (hx : x / 64 = x' / 64) (hy : y / 32 = y' / 32)
    (h : addr32 bt bp bw x y = addr32 bt bp bw x' y') : x = x' ∧ y = y' := by
  rw [addr32_eq, addr32_eq, hx, hy] at h
  exact unitIndex_inj hbt tCT32_isNumbering (by decide) hx hy h

theorem addr16_inj {bt : List (List Nat)} (hbt : IsNumbering bt 8 4) {bp bw x y x' y' : Nat}
    (hx : x / 64 = x' / 64) (hy : y / 64 = y' / 64)
    (h : laneLoc (addr16 bt bp bw x y) 16 = laneLoc (addr16 bt bp bw x' y') 16) :
    x = x' ∧ y = y' := by
  rw [addr16_eq, addr16_eq, hx, hy] at h
  exact unitIndex_inj hbt tCT16_isNumbering (by decide) hx hy (eq_of_laneLoc (by decide) h)

theorem addr8_inj {bp bw x y x' y' : Nat} (hx : x / 128 = x' / 128) (hy : y / 64 = y' / 64)
    (h : laneLoc (addr8 bp bw x y) 8 = laneLoc (addr8 bp bw x' y') 8) : x = x' ∧ y = y' := by
  rw [addr8_eq, addr8_eq, hx, hy] at h
  exact unitIndex_inj tBT8_isNumbering tCT8_isNumbering (by decide) hx hy
    (eq_of_laneLoc (by decide) h)

theorem addr4_inj {bp bw x y x' y' : Nat} (hx : x / 128 = x' / 128) (hy : y / 128 = y' / 128)
    (h : laneLoc (addr4 bp bw x y) 4 = laneLoc (addr4 bp bw x' y') 4) : x = x' ∧ y = y' := by
  rw [addr4_eq, addr4_eq, hx, hy] at h
  exact unitIndex_inj tBT4_isNumbering tCT4_isNumbering (by decide) hx hy
    (eq_of_laneLoc (by decide) h)

/-- Settles O39, by the family of the mode. -/
theorem pixelsOfAPageAreDistinct : Obligations.PixelsOfAPageAreDistinct := by
  unfold Obligations.PixelsOfAPageAreDistinct
  intro p bp bw x y x' y' hx hy h
  cases p
  case ct32 | ct24 | t8h | t4hl | t4hh =>
    exact addr32_inj tBT32_isNumbering hx hy (congrArg PixelLoc.word h)
  case z32 | z24 => exact addr32_inj tBTZ32_isNumbering hx hy (congrArg PixelLoc.word h)
  case ct16 => exact addr16_inj tBT16_isNumbering hx hy h
  case ct16s => exact addr16_inj tBT16S_isNumbering hx hy h
  case z16 => exact addr16_inj tBTZ16_isNumbering hx hy h
  case z16s => exact addr16_inj tBTZ16S_isNumbering hx hy h
  case t8 => exact addr8_inj hx hy h
  case t4 => exact addr4_inj hx hy h

end Sys2Proof.Proofs
end

section
/-! The family Memory, who writes it (20_memory.md R103): every operation that no kick, no transfer
and no reset runs leaves VRAM as it is. -/

namespace Sys2Proof.Proofs
open Sys2Proof.Machine Sys2Proof.Claims

/-! ### General register writes -/

/-- A commit without a kick draws nothing (R365). -/
theorem commitVertex_noKick_vram (x y : BitVec 16) (z : BitVec 32) (s : State) :
    (commitVertex x y z false s).vram = s.vram := by
  by_cases h : s.vq.length + 1 < vertsNeeded (primTypeOf s.reg.prim)
  · rw [commitVertex_short false h]; rfl
  · rw [commitVertex_full false h]; rfl

theorem putSignal_vram (v : Word64) (s : State) : (putSignal v s).vram = s.vram := by
  obtain ⟨s0, hs0, p, h, _⟩ := putSignal_cases v s
  rw [h]
  rcases hs0 with rfl | rfl <;> rfl

/-- The write of a register that neither kicks nor belongs to the transfer engine. -/
theorem putReg_vram {r : GReg} (h : idMayWriteVram r.id = false) (v : Word64) (s : State) :
    (putReg r v s).vram = s.vram := by
  cases r
  case xyzf2 | xyz2 | trxdir | hwreg => exact absurd h (by decide)
  case xyzf3 | xyz3 => exact commitVertex_noKick_vram ..
  case signal => exact putSignal_vram v s
  all_goals rfl

theorem writeReg_vram {id : BitVec 8} (h : idMayWriteVram id = false) (v : Word64) (src : Src)
    (s : State) : (writeReg id v src s).vram = s.vram := by
  rcases writeReg_cases id v src s with ⟨r, hr, hw⟩ | ⟨_, hw⟩ <;> rw [hw]
  · exact putReg_vram (by rwa [GReg.id_of_ofId hr]) v s
  · rfl

/-! ### Tags and payload units -/

/-- A tag writes PRIM at most (R207). -/
theorem readTag_vram (path : Path) (flg : BitVec 2) (t : TagFields) (s : State) :
    (readTag path flg t s).vram = s.vram := by
  unfold readTag
  dsimp only
  rw [State.setDec_vram]
  split
  · exact writeReg_vram (by decide) ..
  · rfl

theorem reglistWrite_vram {d : BitVec 4} (h : idMayWriteVram (d.setWidth 8) = false) (v : Word64)
    (s : State) : (reglistWrite d v s).vram = s.vram := by
  unfold reglistWrite
  split
  · rfl
  · exact writeReg_vram h ..

/-! ### Privileged accesses -/

theorem csrWrite_vram {w : Word32} (h : w.getLsbD 9 = false) (s : State) :
    (csrWrite w s).vram = s.vram := by
  rcases csrWrite_cases w s with ⟨_, hw⟩ | ⟨h9, _⟩
  · rw [hw]; rfl
  · exact absurd (h.symm.trans h9) (by decide)

/-- An access that cannot write 1 to CSR.RESET. -/
theorem privAccess_vram {r : PrivReg} {acc : PrivAccess} (h : mayWriteVram (r.instr acc) = false)
    (s : State) : (privAccess r acc s).vram = s.vram := by
  cases r
  case csr =>
    rcases acc with v | ⟨_ | _, v⟩ | part
    · have h9 : v.getLsbD 9 = false := h
      exact csrWrite_vram (by simpa using h9) s
    · have h9 : v.getLsbD 9 = false := h
      exact csrWrite_vram (by simpa using h9) s
    · exact csrWrite_vram (by simp) s
    · rfl
  all_goals rcases acc with v | ⟨_ | _, v⟩ | part <;> rfl

/-- No register but CSR writes VRAM, whatever the access. -/
theorem mayWriteVram_priv {r : PrivReg} (h : r ≠ .csr) (acc : PrivAccess) :
    mayWriteVram (r.instr acc) = false := by
  cases r
  case csr => exact absurd rfl h
  all_goals rfl

theorem privUnmapped_vram (op : HostOp) (addr : Word32) (s : State) :
    (privUnmapped op addr s).vram = s.vram := by
  cases op <;> rfl

/-! ### Host calls -/

theorem hostWrite64_vram {addr : Word32} {v : Word64}
    (h : mayWriteVram (.hostWrite64 addr v) = false) (s : State) :
    (hostWrite64 addr v s).vram = s.vram := by
  obtain ⟨hid, haddr⟩ := Bool.or_eq_false_iff.mp h
  have hcsr : PrivReg.csr.addr ≠ addr := fun e => by simp [← e, PrivReg.addr] at haddr
  unfold hostWrite64
  split
  case isTrue hlow => exact writeReg_vram (by simpa [hlow] using hid) v .host s
  case isFalse =>
    split
    case h_1 r hdec =>
      obtain ⟨_, hr⟩ | ⟨hpart, _⟩ := privDecode_some hdec
      · exact privAccess_vram (mayWriteVram_priv (fun e => hcsr (e ▸ hr)) _) s
      · cases hpart
    case h_2 => rfl
    case h_3 => rfl

theorem hostWrite32_vram {addr v : Word32} (h : mayWriteVram (.hostWrite32 addr v) = false)
    (s : State) : (hostWrite32 addr v s).vram = s.vram := by
  unfold hostWrite32
  split
  case h_1 r part hdec =>
    refine privAccess_vram ?_ s
    by_cases hr : r = .csr
    · subst hr
      obtain ⟨rfl, rfl⟩ | ⟨rfl, _⟩ := privDecode_some hdec
      · exact h
      · rfl
    · exact mayWriteVram_priv hr _
  case h_2 => rfl

theorem hostRead32_vram (addr : Word32) (s : State) : (hostRead32 addr s).vram = s.vram := by
  unfold hostRead32
  split <;> rfl

/-- A pixel given to the stream is read, not written (R394). -/
theorem givePixel_vram (s : State) : (givePixel s).vram = s.vram := pixRead_vram ..

theorem givePixels_vram (n : Nat) (s : State) : (givePixels n s).vram = s.vram := by
  induction n generalizing s with
  | zero => rfl
  | succ n ih =>
    unfold givePixels
    split
    · exact (ih _).trans (givePixel_vram s)
    · rfl

theorem hostReadHwreg_vram (s : State) : (hostReadHwreg s).vram = s.vram := by
  show (hwregRead s).2.vram = s.vram
  have hloop := givePixels_vram (s.xfer.total - s.xfer.pixels) s
  rcases hwregRead_cases s with ⟨_, h⟩ | ⟨_, _, s1, rfl, h⟩ <;> rw [h]
  · rfl
  · dsimp only
    split <;> exact hloop

theorem framePixels_vram (w n k : Nat) (s : State) : (framePixels w n k s).2.vram = s.vram := by
  induction n generalizing k s with
  | zero => rfl
  | succ n ih => exact (ih (k + 1) _).trans (pixRead_vram ..)

theorem endOfStream_vram (path : Path) (s : State) : (endOfStream path s).vram = s.vram := by
  rcases endOfStream_cases path s with h | ⟨e, h⟩ <;> rw [h]
  rfl

/-! ### Every row -/

/-- The state an instruction leaves, where it leaves one, has the same VRAM. -/
def KeepsVram (s : State) (o : Outcome) : Prop :=
  ∀ t, o = .next t → t.vram = s.vram

theorem keepsVram_next {s t : State} (h : t.vram = s.vram) : KeepsVram s (.next t) := by
  intro t' ht
  cases ht
  exact h

/-- The rows by what they run: a tag, a register write under some id, a privileged access, a host
call, or the store of a register, which is not VRAM. -/
theorem exec_keepsVram {i : Instr} (h : mayWriteVram i = false) (s : State) :
    KeepsVram s (exec i s) := by
  cases i
  case giftagPacked | giftagReglist | giftagImage | giftagFlg3 =>
    exact keepsVram_next (readTag_vram ..)
  case pkXyzf2 | pkXyz2 =>
    obtain rfl := Bool.not_inj (y := true) h
    exact keepsVram_next (writeReg_vram (by decide) ..)
  case pkAD => exact keepsVram_next (writeReg_vram h ..)
  case pkReservedB | pkNop => exact keepsVram_next rfl
  case pkPrim | pkRgbaq | pkSt | pkUv | pkTex0_1 | pkTex0_2 | pkClamp_1 | pkClamp_2 | pkFog |
      pkXyzf3 | pkXyz3 =>
    exact keepsVram_next (writeReg_vram (by decide) ..)
  case rlPrim | rlRgbaq | rlSt | rlUv | rlTex0_1 | rlTex0_2 | rlClamp_1 | rlClamp_2 | rlFog |
      rlReservedB | rlXyzf3 | rlXyz3 | rlNoneE | rlNoneF =>
    exact keepsVram_next (reglistWrite_vram (by decide) ..)
  case xyzf3 | xyz3 => exact keepsVram_next (commitVertex_noKick_vram ..)
  case signal v => exact keepsVram_next (putSignal_vram v s)
  case privCsr => exact keepsVram_next (privAccess_vram (r := .csr) h s)
  case privUnmapped => exact keepsVram_next (privUnmapped_vram ..)
  case hostEndOfStream => exact keepsVram_next (endOfStream_vram ..)
  case hostWrite64 => exact keepsVram_next (hostWrite64_vram h s)
  case hostWrite32 => exact keepsVram_next (hostWrite32_vram h s)
  case hostRead32 => exact keepsVram_next (hostRead32_vram ..)
  case hostReadHwreg => exact keepsVram_next (hostReadHwreg_vram s)
  case hostVideoEvent kind => cases kind <;> exact keepsVram_next rfl
  case hostGetFramebuffer => exact keepsVram_next (framePixels_vram ..)
  case xyzf2 | xyz2 | trxdir | hwreg | rlXyzf2 | rlXyz2 | imageQword | hostFeedGif |
      hostSendPath3 | hostReset => cases h
  case privPmode | privSmode1 | privSmode2 | privSrfsh | privSynch1 | privSynch2 | privSyncv |
      privDispfb1 | privDisplay1 | privDispfb2 | privDisplay2 | privExtbuf | privExtdata |
      privExtwrite | privBgcolor | privImr | privBusdir | privSiglblid =>
    exact keepsVram_next (privAccess_vram (mayWriteVram_priv (by decide) _) s)
  all_goals exact keepsVram_next rfl

/-- Settles O41: the rows that are not listed leave VRAM itself. -/
theorem onlyListedRowsWriteVram : Obligations.OnlyListedRowsWriteVram := by
  unfold Obligations.OnlyListedRowsWriteVram
  intro i s t hi hexec a
  rw [exec_keepsVram hi s t hexec]

end Sys2Proof.Proofs
end

section
/-! The family Memory, transfers (20_memory.md R116; 44_transfer_engine.md R383 to R392): a transfer
changes only bytes of the words of the destination pixels it counts. -/

namespace Sys2Proof.Proofs
open Sys2Proof.Machine Sys2Proof.Claims

/-! ### One destination pixel -/

/-- A byte lies outside the word of destination pixel `k` of a transfer, in order `o`; a rejected
pixel has no word. -/
def OutsidePixel (cfg : Params) (x : Xfer) (o : BitVec 2) (a k : Nat) : Prop :=
  ∀ l, destAt cfg x o k = .ok l → a / 4 ≠ l.word

/-- Two states of one transfer, at whatever progress: where the pixels lie is the same. -/
structure SameTransfer (s t : State) : Prop where
  cfg : t.cfg = s.cfg
  buf : t.xfer.buf = s.xfer.buf
  pos : t.xfer.pos = s.xfer.pos
  reg : t.xfer.reg = s.xfer.reg

theorem SameTransfer.destAt_eq {s t : State} (h : SameTransfer s t) (o : BitVec 2) (k : Nat) :
    destAt t.cfg t.xfer o k = destAt s.cfg s.xfer o k := by
  unfold destAt
  rw [h.cfg, h.buf, h.pos, h.reg]

theorem SameTransfer.outsidePixel {s t : State} (h : SameTransfer s t) {o : BitVec 2} {a k : Nat}
    (hout : OutsidePixel s.cfg s.xfer o a k) : OutsidePixel t.cfg t.xfer o a k := by
  unfold OutsidePixel
  rwa [h.destAt_eq]

theorem readByte_pixWrite_other {code : BitVec 6} {bp bw x y a : Nat} {s : State} (p : Word32)
    (h : ∀ l, locate s.cfg code bp bw x y = .ok l → a / 4 ≠ l.word) :
    readByte (pixWrite code bp bw x y p s).vram a = readByte s.vram a := by
  rcases pixWrite_cases code bp bw x y p s with ⟨e, _, hw⟩ | ⟨l, hl, _, hw⟩ <;> rw [hw]
  · rfl
  · exact readByte_writeWord_other _ (h l hl)

/-- A destination pixel located in `s` and written in a later state of the transfer. -/
theorem readByte_writeDest_other {o : BitVec 2} {a k : Nat} {s t : State} (hsame : SameTransfer s t)
    (p : Word32) (h : OutsidePixel s.cfg s.xfer o a k) :
    readByte (writeDest (xferXY s.xfer k o) p t).vram a = readByte t.vram a := by
  have hxy : xferXY s.xfer k o = xferXY t.xfer k o := by
    unfold xferXY xferWidth xferHeight
    rw [hsame.reg]
  rw [hxy]
  exact readByte_pixWrite_other p (hsame.outsidePixel h)

/-! ### Host to local -/

theorem takePixel_sameTransfer (s : State) : SameTransfer s (takePixel s) where
  cfg := (Moves.takePixel s).cfg
  buf := by rw [takePixel_xfer]
  pos := by rw [takePixel_xfer]
  reg := by rw [takePixel_xfer]

theorem readByte_takePixel_other {a : Nat} {s : State}
    (h : OutsidePixel s.cfg s.xfer 0#2 a s.xfer.pixels) :
    readByte (takePixel s).vram a = readByte s.vram a :=
  readByte_writeDest_other (t := s.setXfer { s.xfer with
    streamBits := s.xfer.streamBits >>> s.xfer.bitDepth
    streamN := s.xfer.streamN - s.xfer.bitDepth }) ⟨rfl, rfl, rfl, rfl⟩ _ h

/-- The loop of R392 counts every pixel it takes. -/
theorem takePixels_pixels_le (n : Nat) (s : State) :
    s.xfer.pixels ≤ (takePixels n s).xfer.pixels := by
  induction n generalizing s with
  | zero => exact le_refl _
  | succ n ih =>
    unfold takePixels
    split
    · have hone : (takePixel s).xfer.pixels = s.xfer.pixels + 1 := by rw [takePixel_xfer]
      exact (by omega : s.xfer.pixels ≤ (takePixel s).xfer.pixels).trans (ih _)
    · exact le_refl _

/-- The loop of R392 changes no byte outside the pixels from its first to its last. -/
theorem readByte_takePixels_other {n a : Nat} {s : State}
    (h : ∀ k, s.xfer.pixels ≤ k → k < (takePixels n s).xfer.pixels →
      OutsidePixel s.cfg s.xfer 0#2 a k) :
    readByte (takePixels n s).vram a = readByte s.vram a := by
  induction n generalizing s with
  | zero => rfl
  | succ n ih =>
    unfold takePixels at h ⊢
    split at h
    case isTrue hmore =>
      rw [if_pos hmore]
      have hone : (takePixel s).xfer.pixels = s.xfer.pixels + 1 := by rw [takePixel_xfer]
      have hlast := takePixels_pixels_le n (takePixel s)
      calc readByte (takePixels n (takePixel s)).vram a
        _ = readByte (takePixel s).vram a := ih fun k hk hk' =>
          (takePixel_sameTransfer s).outsidePixel (h k (by omega) hk')
        _ = readByte s.vram a := readByte_takePixel_other (h _ (le_refl _) (by omega))
    case isFalse hdone => rw [if_neg hdone]

/-- An HWREG write changes no byte outside the pixels it counts. -/
theorem readByte_hwregWrite_other {a : Nat} {v : Word64} {s : State}
    (h : ∀ k, s.xfer.pixels ≤ k → k < (hwregWrite v s).xfer.pixels →
      OutsidePixel s.cfg s.xfer 0#2 a k) :
    readByte (hwregWrite v s).vram a = readByte s.vram a := by
  rcases hwregWrite_cases v s with ⟨_, hw⟩ | ⟨_, _, s2, rfl, ⟨_, hw⟩ | ⟨_, hw⟩⟩ <;> rw [hw] at h ⊢
  · rfl
  · exact readByte_takePixels_other (s := pushWord v s) h
  · exact readByte_takePixels_other (s := pushWord v s) h

/-! ### Local to local -/

theorem copyPixel_sameTransfer (k : Nat) (s : State) : SameTransfer s (copyPixel k s) where
  cfg := (Moves.copyPixel k s).cfg
  buf := by rw [copyPixel_xfer]
  pos := by rw [copyPixel_xfer]
  reg := by rw [copyPixel_xfer]

/-- A source pixel is read, not written: memory and the transfer stay. -/
theorem readSource_keeps (off : Nat × Nat) (s : State) :
    SameTransfer s (readSource off s).2 ∧ (readSource off s).2.vram = s.vram :=
  ⟨⟨(Moves.readSource off s).cfg, by rw [readSource_xfer], by rw [readSource_xfer],
    by rw [readSource_xfer]⟩, pixRead_vram ..⟩

/-- One pixel of a copy: the read changes no memory, the write that of the destination pixel. -/
theorem readByte_copyPixel_other {a k : Nat} {s : State}
    (h : OutsidePixel s.cfg s.xfer (trxposDIR s.xfer.pos) a k) :
    readByte (copyPixel k s).vram a = readByte s.vram a := by
  obtain ⟨hsame, hvram⟩ := readSource_keeps (xferXY s.xfer k (trxposDIR s.xfer.pos)) s
  unfold copyPixel
  dsimp only
  rw [countPixel_vram, ← hvram]
  split
  · exact readByte_writeDest_other hsame _ h
  · rfl

theorem readByte_copyPixels_other {n k a : Nat} {s : State}
    (h : ∀ j, k ≤ j → j < k + n → OutsidePixel s.cfg s.xfer (trxposDIR s.xfer.pos) a j) :
    readByte (copyPixels n k s).vram a = readByte s.vram a := by
  induction n generalizing k s with
  | zero => rfl
  | succ n ih =>
    have hsame := copyPixel_sameTransfer k s
    calc readByte (copyPixels n (k + 1) (copyPixel k s)).vram a
      _ = readByte (copyPixel k s).vram a := ih fun j hj hj' => by
        rw [hsame.pos]
        exact hsame.outsidePixel (h j (by omega) (by omega))
      _ = readByte s.vram a := readByte_copyPixel_other (h k (le_refl _) (by omega))

/-! ### TRXDIR -/

theorem cancelXfer_vram (s : State) : (cancelXfer s).vram = s.vram := by
  unfold cancelXfer
  split <;> rfl

/-- A TRXDIR write copies locally, under XDIR 2, or leaves VRAM (R383, R384, R389). -/
theorem trxdirWrite_copies_or_keeps (v : Word64) (s : State) :
    (trxdirXDIR v = 2#2 ∧ ∃ d, trxdirWrite v s =
      deactivate (localCopy (setDepth d (latchXfer .localToLocal (storeTrxdir v s))))) ∨
    (trxdirWrite v s).vram = s.vram := by
  rcases trxdirWrite_cases v s with ⟨_, h⟩ | ⟨dir, hdir, ⟨e, _, h⟩ | ⟨d, _, s2, rfl, ⟨_, h⟩ |
    ⟨_, rfl, h⟩ | ⟨_, _, h⟩⟩⟩
  case inl => exact .inr (by rw [h]; exact cancelXfer_vram _)
  case inr.inl => exact .inr (by rw [h]; rfl)
  case inr.inr.inl => exact .inr (by rw [h]; rfl)
  case inr.inr.inr.inl => exact .inl ⟨eq_xdirCode_of_xferDirOf hdir, d, h⟩
  case inr.inr.inr.inr => exact .inr (by rw [h]; rfl)

/-- A local copy from its first pixel changes no byte outside the pixels it has counted at its
end. -/
theorem readByte_localCopy_other {a : Nat} {s : State} (hstart : s.xfer.pixels = 0)
    (h : ∀ k, k < (localCopy s).xfer.pixels → OutsidePixel (localCopy s).cfg (localCopy s).xfer
      (trxposDIR (localCopy s).xfer.pos) a k) :
    readByte (localCopy s).vram a = readByte s.vram a := by
  have hsame : SameTransfer (localCopy s) s :=
    ⟨(Moves.localCopy s).cfg.symm, by rw [localCopy_xfer], by rw [localCopy_xfer],
      by rw [localCopy_xfer]⟩
  have hcount : (localCopy s).xfer.pixels = s.xfer.total := by
    rw [localCopy_xfer]
    simp [hstart]
  refine readByte_copyPixels_other fun k _ hk => ?_
  rw [hsame.pos]
  exact hsame.outsidePixel (h k (by omega))

/-- Settles O50: the two loops that write destination pixels, and TRXDIR without the copy. -/
theorem transfersKeepOtherBytes : Obligations.TransfersKeepOtherBytes := by
  unfold Obligations.TransfersKeepOtherBytes
  refine ⟨fun v s t hexec a h => ?hwreg,
    fun v s t hexec => ⟨fun _ a h => ?copy, fun hxdir a => ?off⟩⟩
  case hwreg =>
    cases hexec
    exact readByte_hwregWrite_other fun k hk hk' l hl => h k l hk hk' hl
  case copy =>
    cases hexec
    rcases trxdirWrite_copies_or_keeps v s with ⟨_, d, hw⟩ | hw
    · replace hw : putTrxdir v s = _ := hw
      rw [hw] at h ⊢
      exact readByte_localCopy_other rfl fun k hk l hl => h k l hk hl
    · exact congrArg (readByte · a) hw
  case off =>
    cases hexec
    rcases trxdirWrite_copies_or_keeps v s with ⟨hcopy, _⟩ | hw
    · exact absurd hcopy hxdir
    · exact congrArg (readByte · a) hw

end Sys2Proof.Proofs
end

section
/-! The family Encoding, the decoder by its kinds of bits: a tag word, a register id and a
privileged address (30_encoding.md R151 to R153, R161, R162, R170). -/

namespace Sys2Proof.Proofs
open Sys2Proof.Machine Sys2Proof.Claims

/-! ### Tag words (R151 to R153, R156) -/

/-- A field depends only on the bits it covers. -/
theorem extractLsb'_congr {w lo n : Nat} {x y : BitVec w}
    (h : ∀ i, lo ≤ i → i < lo + n → x.getLsbD i = y.getLsbD i) :
    x.extractLsb' lo n = y.extractLsb' lo n := by
  apply BitVec.eq_of_getLsbD_eq
  intro i hi
  simp only [BitVec.getLsbD_extractLsb', hi, h (lo + i) (by omega) (by omega)]

/-- Two tag words with the same bits in every field of R151. -/
def AgreeOnNamed (nb : NloopBits) (q q' : Qword) : Prop :=
  ∀ i, named nb i → q.getLsbD i = q'.getLsbD i

/-- Every bit from 46 up is in a field, under both widths of NLOOP. -/
theorem AgreeOnNamed.highField {nb : NloopBits} {q q' : Qword} (h : AgreeOnNamed nb q q')
    (lo n : Nat) (hlo : 46 ≤ lo) (hhi : lo + n ≤ 128) :
    q.extractLsb' lo n = q'.extractLsb' lo n :=
  extractLsb'_congr fun i _ _ => h i (by unfold named; omega)

/-- Bit 14 belongs to NLOOP only where the field has 15 bits (R152). -/
theorem tagNloop_congr {nb : NloopBits} {q q' : Qword} (h : AgreeOnNamed nb q q') :
    tagNloop nb q = tagNloop nb q' := by
  cases nb
  case bits14 =>
    exact congrArg (BitVec.setWidth 15) (extractLsb'_congr fun i _ _ => h i (.inl (by omega)))
  case bits15 =>
    refine extractLsb'_congr fun i _ hi => h i ?_
    rcases Nat.lt_or_ge i 14 with hlt | hge
    · exact .inl hlt
    · exact .inr (.inl ⟨by omega, rfl⟩)

theorem tagFields_congr {nb : NloopBits} {q q' : Qword} (h : AgreeOnNamed nb q q') :
    tagFields nb q = tagFields nb q' := by
  have heop : bitAt q 15 = bitAt q' 15 := h 15 (.inr (.inr (.inl rfl)))
  have hpre : bitAt q 46 = bitAt q' 46 := h 46 (.inr (.inr (.inr ⟨le_refl _, by decide⟩)))
  unfold tagFields
  rw [tagNloop_congr h, heop, hpre, h.highField 47 11 (by decide) (by decide),
    h.highField 60 4 (by decide) (by decide), h.highField 64 64 (by decide) (by decide)]

/-- A tag word is read by its FLG and its other fields alone. -/
theorem decodeTag_congr {nb : NloopBits} {q q' : Qword} (h : AgreeOnNamed nb q q') (path : Path) :
    decodeTag nb path q = decodeTag nb path q' := by
  have hflg : tagFlg q = tagFlg q' := h.highField 58 2 (by decide) (by decide)
  unfold decodeTag
  rw [hflg, tagFields_congr h]

/-- A tag word is the row of its FLG, with its fields: no word is malformed (R153, R156). -/
theorem decodeTag_eq_row (nb : NloopBits) (path : Path) (q : Qword) :
    ∃ row ∈ tagRows, row.1 = tagFlg q ∧ decodeTag nb path q = row.2 path (tagFields nb q) := by
  unfold decodeTag
  split
  case h_1 hflg => exact ⟨(0#2, .giftagPacked), by simp [tagRows], hflg.symm, rfl⟩
  case h_2 hflg => exact ⟨(1#2, .giftagReglist), by simp [tagRows], hflg.symm, rfl⟩
  case h_3 hflg => exact ⟨(2#2, .giftagImage), by simp [tagRows], hflg.symm, rfl⟩
  case h_4 h0 h1 h2 =>
    have hflg : 3#2 = tagFlg q := by
      generalize tagFlg q = flg at h0 h1 h2
      revert flg
      decide
    exact ⟨(3#2, .giftagFlg3), by simp [tagRows], hflg, rfl⟩

/-- Settles O9: the fields of a tag word cover the named bits and no others, and FLG has four
values. -/
theorem unnamedTagBitsIgnored : Obligations.UnnamedTagBitsIgnored := by
  unfold Obligations.UnnamedTagBitsIgnored
  refine ⟨fun nb path q q' h => decodeTag_congr h path, fun nb path q => ?_⟩
  obtain ⟨row, hmem, _, hdec⟩ := decodeTag_eq_row nb path q
  exact ⟨row, hmem, _, hdec⟩

/-! ### Register ids (R161, R162) -/

/-- The table of R161 lists, in rising order, the ids outside the ranges of R162. -/
theorem ids_eq_filter_range :
    GReg.all.map (fun r => r.id.toNat) =
      (List.range 256).filter (fun n => !isUnmapped (BitVec.ofNat 8 n)) := by decide +kernel

/-- The mapped ids are those of the registers. -/
theorem isUnmapped_eq_false_iff {id : BitVec 8} : isUnmapped id = false ↔ ∃ r : GReg, r.id = id := by
  constructor
  case mp =>
    intro hmap
    have hmem : id.toNat ∈ GReg.all.map (fun r => r.id.toNat) := by
      rw [ids_eq_filter_range]
      simp [hmap, id.isLt]
    obtain ⟨r, _, hr⟩ := List.mem_map.mp hmem
    exact ⟨r, BitVec.eq_of_toNat_eq hr⟩
  case mpr =>
    rintro ⟨r, rfl⟩
    cases r <;> rfl

theorem decodeReg_of_unmapped {id : BitVec 8} (h : isUnmapped id = true) (src : Src) (v : Word64) :
    decodeReg src id v = .unmappedId src id v := by
  have hnone : GReg.ofId id = none := by
    refine Option.eq_none_iff_forall_ne_some.mpr fun r hr => ?_
    rw [isUnmapped_eq_false_iff.mpr ⟨r, GReg.id_of_ofId hr⟩] at h
    cases h
  unfold decodeReg
  rw [hnone]

/-- A write to an id without a mapping is its E_UNKNOWN_REG and nothing else (R336). -/
theorem exec_unmappedId (src : Src) (id : BitVec 8) (v : Word64) (s : State) :
    exec (.unmappedId src id v) s = .next (reporting [.unknownReg src id] s) := by
  rw [← raise_eq_reporting]
  rfl

/-- Settles O11, by the two answers of the id map. -/
theorem unmappedIdsAreReported : Obligations.UnmappedIdsAreReported := by
  unfold Obligations.UnmappedIdsAreReported
  refine fun nb src id v => ⟨fun hun => ?unmapped, fun hmap => ?mapped⟩
  case unmapped => exact ⟨decodeReg_of_unmapped hun src v, exec_unmappedId src id v⟩
  case mapped =>
    obtain ⟨r, rfl⟩ := isUnmapped_eq_false_iff.mp hmap
    exact ⟨r, rfl, Laws.decodeReg_id r src v⟩

/-! ### Privileged addresses (R170) -/

/-- The table of R170 gives each of its registers the model's address. -/
theorem addr_of_mem_privTable : ∀ row ∈ privTable, row.2.addr = row.1 := by decide

/-- The table of R170 lists every privileged register. -/
theorem mem_privTable (r : PrivReg) : (r.addr, r) ∈ privTable := by cases r <;> decide

/-- Settles O12: a base address and base + 4 decode to the halves, and an address that decodes is
one of these. -/
theorem privilegedAddressMap : Obligations.PrivilegedAddressMap := by
  unfold Obligations.PrivilegedAddressMap
  refine ⟨fun row hrow => ?mapped, fun a hother => ?unmapped⟩
  case mapped =>
    rw [← addr_of_mem_privTable row hrow]
    exact ⟨privDecode_addr row.2, privDecode_addr_add row.2⟩
  case unmapped =>
    refine Option.eq_none_iff_forall_ne_some.mpr fun (r, part) hdec => ?_
    obtain ⟨hlow, hhigh⟩ := hother _ (mem_privTable r)
    rcases privDecode_some hdec with ⟨_, ha⟩ | ⟨_, ha⟩
    · exact hlow ha.symm
    · exact hhigh ha.symm

end Sys2Proof.Proofs
end

section
/-! The family Encoding, whole instructions: the round trip of all 124 rows (30_encoding.md R151 to
R170), and words written out. -/

namespace Sys2Proof.Proofs
open Sys2Proof.Machine Sys2Proof.Claims Sys2Proof.Laws

/-! ### The round trip -/

/-- The round trip of every row, by the kind of its bits: a tag and a PACKED qword read every field
where it was placed, a register write and a privileged access are found by their id and address,
an id and an address without a mapping are found to have none, and a slot, an IMAGE qword and a
host call are their own operands. -/
theorem roundTrip (i : Instr) : RoundTrip.Statement i := by
  cases i
  -- GIFtags
  case giftagPacked path t => exact RoundTrip.giftagPacked path t
  case giftagReglist path t => exact RoundTrip.giftagReglist path t
  case giftagImage path t => exact RoundTrip.giftagImage path t
  case giftagFlg3 path t => exact RoundTrip.giftagFlg3 path t
  -- PACKED qwords
  case pkPrim prim => exact RoundTrip.pkPrim prim
  case pkRgbaq r g b a => exact RoundTrip.pkRgbaq r g b a
  case pkSt sc tc qc => exact RoundTrip.pkSt sc tc qc
  case pkUv uc vc => exact RoundTrip.pkUv uc vc
  case pkXyzf2 x y z f adc => exact RoundTrip.pkXyzf2 x y z f adc
  case pkXyz2 x y z adc => exact RoundTrip.pkXyz2 x y z adc
  case pkTex0_1 v => exact RoundTrip.pkTex0_1 v
  case pkTex0_2 v => exact RoundTrip.pkTex0_2 v
  case pkClamp_1 v => exact RoundTrip.pkClamp_1 v
  case pkClamp_2 v => exact RoundTrip.pkClamp_2 v
  case pkFog f => exact RoundTrip.pkFog f
  case pkXyzf3 x y z f adc => exact RoundTrip.pkXyzf3 x y z f adc
  case pkXyz3 x y z adc => exact RoundTrip.pkXyz3 x y z adc
  case pkAD addr v => exact RoundTrip.pkAD addr v
  -- without a mapping
  case unmappedId src id v => exact RoundTrip.unmappedId src id v
  case privUnmapped op addr => exact RoundTrip.privUnmapped op addr
  -- privileged accesses
  case privPmode acc | privSmode1 acc | privSmode2 acc | privSrfsh acc | privSynch1 acc |
      privSynch2 acc | privSyncv acc | privDispfb1 acc | privDisplay1 acc | privDispfb2 acc |
      privDisplay2 acc | privExtbuf acc | privExtdata acc | privExtwrite acc | privBgcolor acc |
      privCsr acc | privImr acc | privBusdir acc | privSiglblid acc =>
    exact fun nb _ => decodePriv_encodePriv nb _ acc
  -- bits that are the operand itself, or no operand
  case pkReservedB | pkNop | rlPrim | rlRgbaq | rlSt | rlUv | rlXyzf2 | rlXyz2 | rlTex0_1 |
      rlTex0_2 | rlClamp_1 | rlClamp_2 | rlFog | rlReservedB | rlXyzf3 | rlXyz3 | rlNoneE |
      rlNoneF | imageQword | hostFeedGif | hostSendPath3 | hostEndOfStream | hostWrite64 |
      hostWrite32 | hostRead32 | hostReadHwreg | hostVideoEvent | hostReset |
      hostGetDisplayResolution | hostGetInternalResolution | hostGetFramebuffer =>
    exact fun _ _ => rfl
  -- the general registers
  all_goals
    intro nb _
    simp only [encode, decode, decodeReg_id, GReg.instr]

/-- Settles O7: the round trip of every row. -/
theorem decodeOfEncode : Obligations.DecodeOfEncode := by
  unfold Obligations.DecodeOfEncode
  exact fun nb i hwf => roundTrip i nb hwf

/-! ### Words and fields -/

/-- Settles O8: the fields of the tags and PACKED qwords are read from their words, the slot and
the two accesses are found by descriptor, id and address. -/
theorem wordsDecode : Obligations.WordsDecode := by
  unfold Obligations.WordsDecode
  refine ⟨?tag15, ?tag14, ?rgbaq, ?xyzf2, ?slot, ?hwreg, ?imr⟩
  case tag15 | tag14 | rgbaq | xyzf2 => decide
  case slot => rfl
  case hwreg => exact decodeReg_id .hwreg .ad 7#64
  case imr => exact decodePriv_encodePriv .bits15 .imr (.write32 .high 1#32)

/-- Settles O10: each descriptor selects its row, whose fields the model takes from the qword at
these bits. -/
theorem packedFieldsDecode : Obligations.PackedFieldsDecode := by
  unfold Obligations.PackedFieldsDecode
  exact fun _ _ => ⟨rfl, rfl, rfl, rfl, rfl, rfl, rfl, rfl, rfl, rfl, rfl, rfl, rfl, rfl, rfl, rfl⟩

end Sys2Proof.Proofs
end

section
/-! The family GIF decoder, the rows that bits decode to: for a qword, a slot, a register write and
a host access, the operation that its instruction runs (40_gif_decoder.md R200, R218, R219;
45_privileged_registers.md R430 to R434). -/

namespace Sys2Proof.Proofs
open Sys2Proof.Machine Sys2Proof.Claims

/-! ### The row of each kind of bits -/

theorem exec_gregInstr (r : GReg) (v : Word64) (s : State) :
    exec (r.instr v) s = .next (putReg r v s) := by
  cases r <;> rfl

theorem exec_privInstr (r : PrivReg) (acc : PrivAccess) (s : State) :
    exec (r.instr acc) s = .next (privAccess r acc s) := by
  cases r <;> rfl

/-- A register write by id is the write port, for mapped and unmapped ids (R280, R336). -/
theorem exec_decode_reg (nb : NloopBits) (src : Src) (id : BitVec 8) (v : Word64) (s : State) :
    exec (decode nb (.reg src id v)) s = .next (writeReg id v src s) := by
  show exec (decodeReg src id v) s = _
  unfold decodeReg writeReg
  cases GReg.ofId id with
  | some r => exact exec_gregInstr r v s
  | none => rfl

/-- A tag row of either path is `readTag` with the FLG of the row (R153). -/
theorem exec_tagRow {row : BitVec 2 × (Path → TagFields → Instr)} (hrow : row ∈ tagRows)
    (path : Path) (t : TagFields) (s : State) :
    exec (row.2 path t) s = .next (readTag path row.1 t s) := by
  simp only [tagRows, List.mem_cons, List.not_mem_nil, or_false] at hrow
  rcases hrow with rfl | rfl | rfl | rfl <;> rfl

theorem exec_decode_tag (nb : NloopBits) (path : Path) (q : Qword) (s : State) :
    exec (decode nb (.tag path q)) s =
      .next (readTag path (tagFlg q) (tagFields nb q) s) := by
  obtain ⟨row, hrow, hflg, hdec⟩ := decodeTag_eq_row nb path q
  calc exec (decodeTag nb path q) s
    _ = exec (row.2 path (tagFields nb q)) s := by rw [hdec]
    _ = .next (readTag path row.1 (tagFields nb q) s) := exec_tagRow hrow ..
    _ = .next (readTag path (tagFlg q) (tagFields nb q) s) := by rw [hflg]

/-- A PACKED qword under a descriptor is the descriptor's write (R250). -/
theorem exec_decode_packed (nb : NloopBits) (d : BitVec 4) (q : Qword) (s : State) :
    exec (decode nb (.packed d q)) s = .next (packedWrite d q s) := by
  show exec (decodePacked d q) s = _
  unfold decodePacked
  split
  case h_16 =>
    have hd : d = 0xF#4 := by revert d; decide
    subst hd
    rfl
  all_goals rfl

/-- A REGLIST slot under a descriptor is the descriptor's write (R218). -/
theorem exec_decode_slot (nb : NloopBits) (d : BitVec 4) (v : Word64) (s : State) :
    exec (decode nb (.slot d v)) s = .next (reglistWrite d v s) := by
  show exec (decodeSlot d v) s = _
  unfold decodeSlot
  split
  case h_16 =>
    have hd : d = 0xF#4 := by revert d; decide
    subst hd
    rfl
  all_goals rfl

/-- A call that delivers a qword on a path runs the decoder on it (R200). -/
theorem exec_ingress (path : Path) (q : Qword) (s : State) :
    exec (ingress path q) s = .next (onQword path q s) := by
  cases path <;> rfl

/-! ### REGLIST rows (R218) -/

/-- The descriptor of a register whose id is below 0xE is that id, and a slot under it is the
register's write, in the register's own format. -/
theorem exec_slot_eq_register (r : GReg) (hid : r.id.toNat < 0xE) (v : Word64) (s : State) :
    ∃ t, exec (decodeSlot (r.id.setWidth 4) v) s = .next t ∧ exec (r.instr v) s = .next t := by
  have hd : ¬ (r.id.setWidth 4 = 0xE#4 ∨ r.id.setWidth 4 = 0xF#4) := by bv_omega
  have hback : (r.id.setWidth 4).setWidth 8 = r.id := by bv_omega
  have hwrite : reglistWrite (r.id.setWidth 4) v s = putReg r v s := by
    unfold reglistWrite
    rw [if_neg hd, hback, writeReg_id]
  exact ⟨putReg r v s, hwrite ▸ exec_decode_slot .bits15 _ v s, exec_gregInstr r v s⟩

/-- Settles O27: thirteen descriptors are ids of registers, 0xB is no register's, and 0xE and 0xF
are left out of the write. -/
theorem reglistRowsWriteRegisters : Obligations.ReglistRowsWriteRegisters := by
  unfold Obligations.ReglistRowsWriteRegisters
  intro v s
  have row (r : GReg) (hid : r.id.toNat < 0xE) := exec_slot_eq_register r hid v s
  have reservedB : exec (.rlReservedB v) s = .next (reporting [.unknownReg .reglist 0x0B#8] s) := by
    rw [← raise_eq_reporting]
    exact exec_decode_slot .bits15 0xB#4 v s
  exact ⟨row .prim (by decide), row .rgbaq (by decide), row .st (by decide), row .uv (by decide),
    row .xyzf2 (by decide), row .xyz2 (by decide), row .tex0_1 (by decide), row .tex0_2 (by decide),
    row .clamp_1 (by decide), row .clamp_2 (by decide), row .fog (by decide), reservedB,
    row .xyzf3 (by decide), row .xyz3 (by decide), rfl, rfl⟩

/-! ### Host accesses (R431 to R434) -/

/-- A `write64` above the general registers is the access of the register at that base address, or
the report of an address without one (R431, R432). -/
theorem exec_decode_w64 (nb : NloopBits) {addr : Word32} (haddr : 0xFF < addr.toNat) (v : Word64)
    (s : State) :
    exec (decode nb (.priv .w64 addr v)) s = .next (hostWrite64 addr v s) := by
  show exec (decodePriv .w64 addr v) s = _
  unfold decodePriv hostWrite64
  rw [if_neg (by omega)]
  rcases privDecode addr with _ | ⟨r, _ | _⟩
  · rfl
  · exact exec_privInstr r _ s
  · rfl

theorem exec_decode_w32 (nb : NloopBits) (addr v : Word32) (s : State) :
    exec (decode nb (.priv .w32 addr (v.setWidth 64))) s = .next (hostWrite32 addr v s) := by
  show exec (decodePriv .w32 addr _) s = _
  unfold decodePriv hostWrite32
  rcases privDecode addr with _ | ⟨r, part⟩
  · rfl
  · dsimp only
    rw [Laws.half_of_word]
    exact exec_privInstr r _ s

theorem exec_decode_r32 (nb : NloopBits) (addr : Word32) (v : Word64) (s : State) :
    exec (decode nb (.priv .r32 addr v)) s = .next (hostRead32 addr s) := by
  show exec (decodePriv .r32 addr _) s = _
  unfold decodePriv hostRead32
  rcases privDecode addr with _ | ⟨r, part⟩
  · rfl
  · exact exec_privInstr r _ s

/-- The addresses of the general registers are no privileged register's. -/
theorem privDecode_of_low {addr : Word32} (haddr : addr.toNat ≤ 0xFF) : privDecode addr = none := by
  refine Option.eq_none_iff_forall_ne_some.mpr fun (r, part) hdec => ?_
  have hbase : 0xFF < r.addr.toNat ∧ 0xFF < (r.addr + 4#32).toNat := by cases r <;> decide
  rcases privDecode_some hdec with ⟨_, rfl⟩ | ⟨_, rfl⟩ <;> omega

theorem decodePriv_of_low {addr : Word32} (haddr : addr.toNat ≤ 0xFF) (op : HostOp) (v : Word64) :
    decodePriv op addr v = .privUnmapped op addr := by
  unfold decodePriv
  rw [privDecode_of_low haddr]
  cases op <;> rfl

theorem hostWrite64_of_low {addr : Word32} (haddr : addr.toNat ≤ 0xFF) (v : Word64) (s : State) :
    hostWrite64 addr v s = writeReg (addr.extractLsb' 0 8) v .host s := by
  unfold hostWrite64
  rw [if_pos haddr, BitVec.setWidth_eq_extractLsb' (by decide)]

/-- Settles O55, by the two ranges of `write64` and the decoding of an address. -/
theorem hostAccessesRunTheirRow : Obligations.HostAccessesRunTheirRow := by
  unfold Obligations.HostAccessesRunTheirRow
  intro nb addr s
  refine ⟨fun v hlow => ?general, fun v hhigh => ⟨_, exec_decode_w64 nb hhigh v s, rfl⟩,
    fun v => ⟨_, exec_decode_w32 nb addr v s, rfl⟩, ⟨_, exec_decode_r32 nb addr _ s, rfl⟩,
    fun hlow => ⟨decodePriv_of_low hlow .w32 _, decodePriv_of_low hlow .r32 _⟩⟩
  case general =>
    refine ⟨_, exec_decode_reg nb .host _ v s, ?_, writeReg_dec ..⟩
    rw [← hostWrite64_of_low hlow]
    rfl

end Sys2Proof.Proofs
end

section
/-! The family GIF decoder, qwords (40_gif_decoder.md R202 to R216): what a tag starts, how a
payload qword is counted, and what a truncated packet reports. -/

namespace Sys2Proof.Proofs
open Sys2Proof.Machine Sys2Proof.Claims

/-! ### Tags (R204 to R210) -/

theorem formatOf_eq_image_iff (flg : BitVec 2) : formatOf flg = .image ↔ 2 ≤ flg.toNat := by
  revert flg
  decide

theorem regCountOf_eq_descriptors (nreg : BitVec 4) : regCountOf nreg = descriptors nreg := by
  revert nreg
  decide

theorem payloadUnits_eq_payload (flg : BitVec 2) (t : TagFields) :
    payloadUnits flg t = payload flg t.nloop.toNat t.nreg := by
  have himage := formatOf_eq_image_iff flg
  unfold payloadUnits payload
  rw [regCountOf_eq_descriptors]
  cases hf : formatOf flg <;> simp only [hf, reduceCtorEq, true_iff, false_iff] at himage
  case packed | reglist => rw [if_pos (by omega)]
  case image => rw [if_neg (by omega)]

/-- PRE = 1 is a write of PRIM, which empties the queue (R207); the counters start from the latched
fields, whatever the decoder held (R208). -/
theorem readTag_eq (path : Path) (flg : BitVec 2) (t : TagFields) (s : State) :
    readTag path flg t s = { s with
      dec := startPayload flg t (latchTag path flg t s.dec)
      reg := { s.reg with prim := if t.pre then 0#53 ++ t.prim else s.reg.prim }
      vq := if t.pre then [] else s.vq } := by
  unfold readTag
  cases t.pre
  case false => rfl
  case true =>
    have hvalue : t.prim.setWidth 64 = 0#53 ++ t.prim := by
      apply BitVec.eq_of_toNat_eq
      rw [BitVec.toNat_append, BitVec.toNat_setWidth_of_le (by decide)]
      simp
    have hprim : ∀ s', writeReg 0x00#8 (t.prim.setWidth 64) .tag s' = putPrim (0#53 ++ t.prim) s' :=
      fun s' => hvalue ▸ writeReg_id .prim _ .tag s'
    simp only [if_true, hprim]
    rfl

/-- The decoder of a tag, field by field: a tag without payload is exhausted at once (R210). -/
theorem startPayload_latchTag_eq (path : Path) (flg : BitVec 2) (t : TagFields) (d : Decoder) :
    startPayload flg t (latchTag path flg t d) =
      { decState := if payload flg t.nloop.toNat t.nreg = 0 then .awaitingTag else .processing
        packetOpen := !(payload flg t.nloop.toNat t.nreg == 0 && t.eop)
        packetPath := path
        tag := { nloop := t.nloop, eop := t.eop, pre := t.pre, prim := t.prim, flg := flg,
                 nreg := t.nreg, regs := t.regs }
        regCount := descriptors t.nreg
        regsLeft := if payload flg t.nloop.toNat t.nreg = 0 ∨ 2 ≤ flg.toNat then 0
          else descriptors t.nreg
        dataLeft := payload flg t.nloop.toNat t.nreg
        packedQ := d.packedQ } := by
  unfold startPayload latchTag
  dsimp only
  rw [payloadUnits_eq_payload, regCountOf_eq_descriptors]
  by_cases hempty : payload flg t.nloop.toNat t.nreg = 0
  · simp [hempty, exhaustTag]
  · have himage := formatOf_eq_image_iff flg
    cases hf : formatOf flg <;> simp only [hf, reduceCtorEq, true_iff, false_iff] at himage <;>
      simp [hempty, himage]

/-- Settles O28: every tag row is `readTag` with its FLG, which writes PRIM, the queue and the
decoder. -/
theorem tagsStartTheirPayload : Obligations.TagsStartTheirPayload := by
  unfold Obligations.TagsStartTheirPayload
  intro row hrow path t s
  rw [exec_tagRow hrow, readTag_eq, startPayload_latchTag_eq]

/-! ### The path (R202, R203) -/

theorem onQword_of_otherPath {path : Path} {s : State} (hopen : s.dec.packetOpen = true)
    (hpath : path ≠ s.dec.packetPath) (q : Qword) :
    onQword path q s = raise (.pathInterleave path s.dec.packetPath) s := by
  unfold onQword
  rw [if_pos ⟨hopen, hpath⟩]

theorem not_otherPath_of_accepts {path : Path} {d : Decoder} (hacc : accepts path d) :
    ¬ (d.packetOpen = true ∧ path ≠ d.packetPath) := by
  rintro ⟨hopen, hpath⟩
  rcases hacc with hclosed | hsame
  · rw [hclosed] at hopen
    cases hopen
  · exact hpath hsame.symm

theorem onQword_tag {path : Path} {s : State} (hacc : accepts path s.dec)
    (hstate : s.dec.decState = .awaitingTag) (q : Qword) :
    onQword path q s = readTag path (tagFlg q) (tagFields s.cfg.nloopBits q) s := by
  unfold onQword
  rw [if_neg (not_otherPath_of_accepts hacc), hstate]

theorem onQword_payload {path : Path} {s : State} (hacc : accepts path s.dec)
    (hstate : s.dec.decState = .processing) (q : Qword) : onQword path q s = payloadStep q s := by
  unfold onQword
  rw [if_neg (not_otherPath_of_accepts hacc), hstate]

/-- An accepted qword in AWAITING_TAG runs the tag row it decodes to. -/
theorem exec_ingress_tag {path : Path} {s : State} (hacc : accepts path s.dec)
    (hstate : s.dec.decState = .awaitingTag) (q : Qword) :
    exec (ingress path q) s = exec (decode s.cfg.nloopBits (.tag path q)) s := by
  rw [exec_ingress, onQword_tag hacc hstate, exec_decode_tag]

/-- Settles O29, by the path of the open packet. -/
theorem ingressChecksThePath : Obligations.IngressChecksThePath := by
  unfold Obligations.IngressChecksThePath
  refine fun path q s => ⟨fun hopen hpath => ?refused, fun hacc hstate => ?tag⟩
  case refused => rw [exec_ingress, onQword_of_otherPath hopen hpath, raise_eq_reporting]
  case tag =>
    rw [exec_ingress_tag hacc hstate]
    exact ⟨_, exec_decode_tag .., exec_decode_tag ..⟩

/-! ### Payload (R211 to R214) -/

theorem countUnit_eq_afterUnit (d : Decoder) : countUnit d = afterUnit d := by
  unfold countUnit afterUnit exhaustTag
  dsimp only
  by_cases hlast : d.dataLeft ≤ 1
  · rw [if_pos (by omega), if_pos hlast]
  · rw [if_neg (by omega), if_neg hlast]
    by_cases hloop : d.regsLeft ≤ 1
    · rw [if_pos (by omega), if_pos hloop]
    · rw [if_neg (by omega), if_neg hloop]

theorem countImage_eq_afterImage (d : Decoder) : countImage d = afterImage d := by
  unfold countImage afterImage exhaustTag
  dsimp only
  by_cases hlast : d.dataLeft ≤ 1
  · rw [if_pos (by omega), if_pos hlast]
  · rw [if_neg (by omega), if_neg hlast]

theorem payloadStep_packed {s : State} (hf : formatOf s.dec.tag.flg = .packed) (q : Qword) :
    payloadStep q s = packedStep q s := by
  unfold payloadStep
  rw [hf]

theorem payloadStep_reglist {s : State} (hf : formatOf s.dec.tag.flg = .reglist) (q : Qword) :
    payloadStep q s = reglistStep q s := by
  unfold payloadStep
  rw [hf]

theorem payloadStep_image {s : State} (hf : formatOf s.dec.tag.flg = .image) (q : Qword) :
    payloadStep q s = imageStep q s := by
  unfold payloadStep
  rw [hf]

theorem packedStep_eq (q : Qword) (s : State) :
    packedStep q s = { packedWrite (currentDescriptor s.dec) q s with
      dec := afterUnit (packedWrite (currentDescriptor s.dec) q s).dec } := by
  rw [← countUnit_eq_afterUnit]
  rfl

theorem slotStep_eq (v : Word64) (s : State) :
    slotStep v s = { reglistWrite (currentDescriptor s.dec) v s with
      dec := afterUnit (reglistWrite (currentDescriptor s.dec) v s).dec } := by
  rw [← countUnit_eq_afterUnit]
  rfl

theorem imageStep_eq (q : Qword) (s : State) :
    imageStep q s = { imageData q s with dec := afterImage s.dec } := by
  rw [← countImage_eq_afterImage, ← imageData_dec q s]
  rfl

theorem afterUnit_dataLeft (d : Decoder) : (afterUnit d).dataLeft = d.dataLeft - 1 := by
  unfold afterUnit
  split <;> dsimp only
  omega

/-- Settles O30: the row under the current descriptor, then the count. -/
theorem packedQwordIsCounted : Obligations.PackedQwordIsCounted := by
  unfold Obligations.PackedQwordIsCounted
  intro path q s hacc hstate hflg
  refine ⟨packedWrite (currentDescriptor s.dec) q s, exec_decode_packed .., ?step, ?row⟩
  case step =>
    have hf : formatOf s.dec.tag.flg = .packed := by rw [hflg]; rfl
    rw [exec_ingress, onQword_payload hacc hstate, payloadStep_packed hf, packedStep_eq]
  case row =>
    obtain ⟨c, hdec⟩ := packedWrite_dec_eq (currentDescriptor s.dec) q s
    rw [hdec]

/-- Settles O31, by whether the low slot is the last of the tag. -/
theorem reglistQwordIsTwoSlots : Obligations.ReglistQwordIsTwoSlots := by
  unfold Obligations.ReglistQwordIsTwoSlots
  intro path q s hacc hstate hflg
  have hf : formatOf s.dec.tag.flg = .reglist := by rw [hflg]; rfl
  have hlow : (slotStep (q.extractLsb' 0 64) s).dec = afterUnit s.dec := by
    rw [slotStep_dec, countUnit_eq_afterUnit]
  have hleft : (slotStep (q.extractLsb' 0 64) s).dec.dataLeft = s.dec.dataLeft - 1 := by
    rw [hlow, afterUnit_dataLeft]
  rw [exec_ingress, onQword_payload hacc hstate, payloadStep_reglist hf, reglistStep]
  refine ⟨_, exec_decode_slot .., fun hlast => ?lowOnly, fun hmore => ?both⟩
  case lowOnly => rw [if_pos (by omega), slotStep_eq]
  case both =>
    rw [if_neg (by omega), ← slotStep_eq, ← hlow]
    exact ⟨_, exec_decode_slot .., congrArg _ (slotStep_eq ..)⟩

/-- Settles O32: the second word is left out exactly when the first one ended an active transfer. -/
theorem imageQwordIsTwoHwregWords : Obligations.ImageQwordIsTwoHwregWords := by
  unfold Obligations.ImageQwordIsTwoHwregWords
  refine fun q s => ⟨⟨hwregWrite (q.extractLsb' 0 64) s, rfl, imageData q s, ?words, ?count⟩,
    fun path hacc hstate hflg => ⟨imageStep q s, ?ingress, rfl⟩⟩
  case words =>
    unfold imageData
    dsimp only
    split <;> rfl
  case count => exact congrArg _ (imageStep_eq q s)
  case ingress =>
    rw [exec_ingress, onQword_payload hacc hstate,
      payloadStep_image ((formatOf_eq_image_iff _).mpr hflg)]

/-! ### The end of a stream (R216) -/

/-- Settles O33, by the decoder's state: inside a payload, or for want of EOP. -/
theorem endOfStreamReportsTruncation : Obligations.EndOfStreamReportsTruncation := by
  unfold Obligations.EndOfStreamReportsTruncation
  intro path s
  show Host.Outcome.next (endOfStream path s) = _
  simp only [← raise_eq_reporting]
  unfold endOfStream
  cases s.dec.decState <;> rfl

end Sys2Proof.Proofs
end

section
/-! The family GIF decoder, whole packets (40_gif_decoder.md R211 to R215, R221; 30_encoding.md
R160): the payload qwords of a tag are counted down to exactly the ones it declares. -/

namespace Sys2Proof.Proofs
open Sys2Proof.Machine Sys2Proof.Claims

/-! ### Counting down -/

/-- The payload units that one qword carries. -/
def unitsPerQword (f : Format) : Nat :=
  match f with
  | .packed => 1
  | .reglist => 2
  | .image => 1

/-- `d'` is `d` after `k` more payload units of its tag. -/
structure CountsDown (k : Nat) (d d' : Decoder) : Prop where
  tag : d'.tag = d.tag
  path : d'.packetPath = d.packetPath
  left : d'.dataLeft = d.dataLeft - k
  ended : d'.dataLeft = 0 →
    d'.decState = .awaitingTag ∧ d'.packetOpen = (d.packetOpen && !d.tag.eop)
  inside : d'.dataLeft ≠ 0 → d'.decState = d.decState ∧ d'.packetOpen = d.packetOpen

theorem countUnit_countsDown (d : Decoder) : CountsDown 1 d (countUnit d) := by
  unfold countUnit
  dsimp only
  split
  case isTrue hlast => exact ⟨rfl, rfl, hlast.symm, fun _ => ⟨rfl, rfl⟩, fun h => absurd rfl h⟩
  case isFalse hleft =>
    split <;> exact ⟨rfl, rfl, rfl, fun h => absurd h hleft, fun _ => ⟨rfl, rfl⟩⟩

theorem countImage_countsDown (d : Decoder) : CountsDown 1 d (countImage d) := by
  unfold countImage
  dsimp only
  split
  case isTrue hlast => exact ⟨rfl, rfl, hlast.symm, fun _ => ⟨rfl, rfl⟩, fun h => absurd rfl h⟩
  case isFalse hleft => exact ⟨rfl, rfl, rfl, fun h => absurd h hleft, fun _ => ⟨rfl, rfl⟩⟩

/-- A tag that has ended stays so, however many more units its last qword had room for. -/
theorem CountsDown.mono {k m : Nat} {d d' : Decoder} (h : CountsDown k d d') (hm : k ≤ m)
    (hend : d'.dataLeft = 0) : CountsDown m d d' := by
  obtain ⟨htag, hpath, hleft, hended, hinside⟩ := h
  exact ⟨htag, hpath, by omega, hended, hinside⟩

theorem CountsDown.trans {k m : Nat} {d d' d'' : Decoder} (h : CountsDown k d d')
    (h' : CountsDown m d' d'') (hmore : d'.dataLeft ≠ 0) : CountsDown (k + m) d d'' := by
  obtain ⟨hstate, hopen⟩ := h.inside hmore
  obtain ⟨htag', hpath', hleft', hended', hinside'⟩ := h'
  rw [hopen, h.tag] at hended'
  rw [hstate, hopen] at hinside'
  exact ⟨htag'.trans h.tag, hpath'.trans h.path, by rw [hleft', h.left]; omega, hended', hinside'⟩

/-- What the count reads of the decoder is not `packed_Q`. -/
theorem CountsDown.of_packedQ {k : Nat} {d d' : Decoder} {c : BitVec 32}
    (h : CountsDown k { d with packedQ := c } d') : CountsDown k d d' :=
  ⟨h.tag, h.path, h.left, h.ended, h.inside⟩

/-- A payload qword counts the units of its format (R211 to R213). -/
theorem payloadStep_countsDown (q : Qword) (s : State) :
    CountsDown (unitsPerQword (formatOf s.dec.tag.flg)) s.dec (payloadStep q s).dec := by
  cases hf : formatOf s.dec.tag.flg
  case packed =>
    obtain ⟨c, hdec⟩ := packedWrite_dec_eq (nextDescriptor s.dec) q s
    rw [payloadStep_packed hf]
    show CountsDown 1 s.dec (countUnit (packedWrite (nextDescriptor s.dec) q s).dec)
    rw [hdec]
    exact CountsDown.of_packedQ (countUnit_countsDown _)
  case reglist =>
    rw [payloadStep_reglist hf]
    unfold reglistStep
    dsimp only
    rw [slotStep_dec]
    split
    case isTrue hend =>
      rw [slotStep_dec]
      exact (countUnit_countsDown s.dec).mono (by decide) hend
    case isFalse hmore =>
      rw [slotStep_dec, slotStep_dec]
      exact (countUnit_countsDown s.dec).trans (countUnit_countsDown _) hmore
  case image =>
    rw [payloadStep_image hf]
    show CountsDown 1 s.dec (countImage (imageData q s).dec)
    rw [imageData_dec]
    exact countImage_countsDown s.dec

/-! ### The payload of a last tag -/

/-- The qwords that the payload units left take. -/
def qwordsLeft (d : Decoder) : Nat :=
  (d.dataLeft + (unitsPerQword (formatOf d.tag.flg) - 1)) / unitsPerQword (formatOf d.tag.flg)

/-- The decoder in the payload of a tag with EOP = 1 on a path, with `n` qwords to come; with none
it awaits a tag, and no packet is open. -/
structure LastPayload (path : Path) (n : Nat) (d : Decoder) : Prop where
  eop : d.tag.eop = true
  left : qwordsLeft d = n
  ended : d.dataLeft = 0 → d.decState = .awaitingTag ∧ d.packetOpen = false
  inside : d.dataLeft ≠ 0 → d.decState = .processing ∧ d.packetPath = path

theorem qwordsLeft_eq_zero_iff (d : Decoder) : qwordsLeft d = 0 ↔ d.dataLeft = 0 := by
  unfold qwordsLeft
  cases formatOf d.tag.flg <;> simp only [unitsPerQword] <;> omega

theorem LastPayload.dataLeft_eq_zero_iff {path : Path} {n : Nat} {d : Decoder}
    (h : LastPayload path n d) : d.dataLeft = 0 ↔ n = 0 := by
  rw [← h.left, qwordsLeft_eq_zero_iff]

theorem qwordsLeft_of_countsDown {d d' : Decoder}
    (h : CountsDown (unitsPerQword (formatOf d.tag.flg)) d d') :
    qwordsLeft d' = qwordsLeft d - 1 := by
  unfold qwordsLeft
  rw [h.left, h.tag]
  cases formatOf d.tag.flg <;> simp only [unitsPerQword] <;> omega

/-- A qword on the path of the packet is one of the qwords to come. -/
theorem LastPayload.onQword {path : Path} {n : Nat} {s : State}
    (h : LastPayload path (n + 1) s.dec) (q : Qword) :
    LastPayload path n (onQword path q s).dec := by
  have hmore : s.dec.dataLeft ≠ 0 := by
    rw [Ne, h.dataLeft_eq_zero_iff]
    omega
  obtain ⟨hstate, hpath⟩ := h.inside hmore
  have hcount := payloadStep_countsDown q s
  rw [onQword_payload (.inr hpath) hstate]
  exact
    { eop := by rw [hcount.tag, h.eop]
      left := by rw [qwordsLeft_of_countsDown hcount, h.left, Nat.add_sub_cancel]
      ended := fun hend => by simpa [h.eop] using hcount.ended hend
      inside := fun hleft => ⟨(hcount.inside hleft).1.trans hstate, hcount.path.trans hpath⟩ }

/-- NLOOP as the two widths read it (R152). -/
theorem tagNloop_toNat (nb : NloopBits) (q : Qword) : (tagNloop nb q).toNat = loops nb q := by
  cases nb
  case bits15 => rfl
  case bits14 => exact BitVec.toNat_setWidth_of_le (by decide)

/-- The counters of a tag stand for the qwords it declares (R160, R208). -/
theorem qwordsLeft_of_payload {d : Decoder} {nloop : Nat} {nreg : BitVec 4}
    (h : d.dataLeft = payload d.tag.flg nloop nreg) :
    qwordsLeft d = payloadQwords d.tag.flg nloop nreg := by
  unfold qwordsLeft payloadQwords
  rw [h]
  unfold payload
  generalize d.tag.flg = flg
  have hflg : flg = 0#2 ∨ flg = 1#2 ∨ flg = 2#2 ∨ flg = 3#2 := by
    revert flg
    decide
  rcases hflg with rfl | rfl | rfl | rfl <;> simp [formatOf, unitsPerQword]

/-- A tag qword with EOP = 1 opens the payload it declares. -/
theorem readTag_lastPayload (path : Path) {q : Qword} (heop : q.getLsbD 15 = true) (s : State) :
    LastPayload path (declared s.cfg.nloopBits q)
      (readTag path (tagFlg q) (tagFields s.cfg.nloopBits q) s).dec := by
  have hbit : (tagFields s.cfg.nloopBits q).eop = true := heop
  rw [readTag_eq, startPayload_latchTag_eq]
  exact
    { eop := hbit
      left := by
        rw [declared, ← tagNloop_toNat]
        exact qwordsLeft_of_payload rfl
      ended := fun hend => by
        dsimp only at hend ⊢
        simp [hend, hbit]
      inside := fun hleft => by
        dsimp only at hleft ⊢
        simp [hleft] }

/-! ### Runs of qwords -/

/-- The state after qwords on one path, in order. -/
def feedAll (path : Path) (qs : List Qword) (s : State) : State :=
  match qs with
  | [] => s
  | q :: qs => feedAll path qs (onQword path q s)

/-- Every qword is accepted or reported, and the run goes on. -/
theorem runAll_ingress (path : Path) (qs : List Qword) (s : State) :
    runAll (qs.map (ingress path)) s = .next (feedAll path qs s) := by
  induction qs generalizing s with
  | nil => rfl
  | cons q qs ih =>
    rw [List.map_cons, runAll, exec_ingress]
    exact ih _

theorem LastPayload.feedAll {path : Path} {n : Nat} {s : State} (h : LastPayload path n s.dec)
    {qs : List Qword} (hlen : qs.length ≤ n) :
    LastPayload path (n - qs.length) (feedAll path qs s).dec := by
  induction qs generalizing n s with
  | nil => exact h
  | cons q qs ih =>
    rw [List.length_cons] at hlen ⊢
    obtain ⟨m, rfl⟩ : ∃ m, n = m + 1 := ⟨n - 1, by omega⟩
    rw [Nat.add_sub_add_right]
    exact ih (h.onQword q) (by omega)

/-- Settles O34: the tag opens the payload it declares, each qword takes one, and a decoder with
none left awaits a tag of either path. -/
theorem payloadLengthIsExact : Obligations.PayloadLengthIsExact := by
  unfold Obligations.PayloadLengthIsExact
  intro path q qs s hstate hacc heop
  have htag : LastPayload path (declared s.cfg.nloopBits q) (onQword path q s).dec := by
    rw [onQword_tag hacc hstate]
    exact readTag_lastPayload path heop s
  refine ⟨feedAll path (q :: qs) s, runAll_ingress .., fun hshort => ?short, fun hexact => ?exact⟩
  case short =>
    have hend := htag.feedAll hshort.le
    exact (hend.inside (by rw [Ne, hend.dataLeft_eq_zero_iff]; omega)).1
  case exact =>
    have hend := htag.feedAll hexact.le
    obtain ⟨hawait, hclosed⟩ := hend.ended (by rw [hend.dataLeft_eq_zero_iff]; omega)
    exact ⟨hawait, hclosed, fun path' q' => exec_ingress_tag (.inl hclosed) hawait q'⟩

end Sys2Proof.Proofs
end

section
/-! The family GIF decoder, the two paths (40_gif_decoder.md R201): register writes neither read nor
write the decoder, and the decoder reads the path of its packet only to accept a qword. -/

namespace Sys2Proof.Proofs
open Sys2Proof.Machine Sys2Proof.Claims

/-! ### Register writes commute with any change of the decoder -/

@[simp] theorem setReg_setDec (s : State) (d : Decoder) (r : RegFile) :
    (s.setDec d).setReg r = (s.setReg r).setDec d := rfl

@[simp] theorem setVq_setDec (s : State) (d : Decoder) (vq : List Vertex) :
    (s.setDec d).setVq vq = (s.setVq vq).setDec d := rfl

@[simp] theorem setXfer_setDec (s : State) (d : Decoder) (x : Xfer) :
    (s.setDec d).setXfer x = (s.setXfer x).setDec d := rfl

@[simp] theorem deactivate_setDec (s : State) (d : Decoder) :
    deactivate (s.setDec d) = (deactivate s).setDec d := rfl

@[simp] theorem countPixel_setDec (s : State) (d : Decoder) :
    countPixel (s.setDec d) = (countPixel s).setDec d := rfl

@[simp] theorem pushWord_setDec (v : Word64) (s : State) (d : Decoder) :
    pushWord v (s.setDec d) = (pushWord v s).setDec d := rfl

@[simp] theorem latchXfer_setDec (dir : XferDir) (s : State) (d : Decoder) :
    latchXfer dir (s.setDec d) = (latchXfer dir s).setDec d := rfl

@[simp] theorem setDepth_setDec (n : Nat) (s : State) (d : Decoder) :
    setDepth n (s.setDec d) = (setDepth n s).setDec d := rfl

@[simp] theorem readSource_setDec (off : Nat × Nat) (s : State) (d : Decoder) :
    readSource off (s.setDec d) = ((readSource off s).1, (readSource off s).2.setDec d) := by
  unfold readSource pixRead
  dsimp only [State.setDec_xfer, State.setDec_cfg]
  split <;> rfl

@[simp] theorem writeDest_setDec (off : Nat × Nat) (p : Word32) (s : State) (d : Decoder) :
    writeDest off p (s.setDec d) = (writeDest off p s).setDec d := by
  unfold writeDest pixWrite
  dsimp only [State.setDec_xfer, State.setDec_cfg]
  split <;> rfl

@[simp] theorem copyPixel_setDec (k : Nat) (s : State) (d : Decoder) :
    copyPixel k (s.setDec d) = (copyPixel k s).setDec d := by
  simp only [copyPixel, State.setDec_xfer, readSource_setDec, writeDest_setDec]
  split
  · exact countPixel_setDec ..
  · exact countPixel_setDec ..

@[simp] theorem copyPixels_setDec (n k : Nat) (s : State) (d : Decoder) :
    copyPixels n k (s.setDec d) = (copyPixels n k s).setDec d := by
  induction n generalizing k s with
  | zero => rfl
  | succ n ih => rw [copyPixels, copyPixels, copyPixel_setDec, ih]

@[simp] theorem localCopy_setDec (s : State) (d : Decoder) :
    localCopy (s.setDec d) = (localCopy s).setDec d :=
  copyPixels_setDec ..

@[simp] theorem takePixel_setDec (s : State) (d : Decoder) :
    takePixel (s.setDec d) = (takePixel s).setDec d := by
  simp only [takePixel, State.setDec_xfer, setXfer_setDec, writeDest_setDec, countPixel_setDec]

@[simp] theorem takePixels_setDec (n : Nat) (s : State) (d : Decoder) :
    takePixels n (s.setDec d) = (takePixels n s).setDec d := by
  induction n generalizing s with
  | zero => rfl
  | succ n ih =>
    unfold takePixels
    rw [State.setDec_xfer, takePixel_setDec, ih]
    split <;> rfl

theorem hwregWrite_setDec (v : Word64) (s : State) (d : Decoder) :
    hwregWrite v (s.setDec d) = (hwregWrite v s).setDec d := by
  unfold hwregWrite
  dsimp only
  rw [pushWord_setDec, State.setDec_xfer, State.setDec_xfer, takePixels_setDec, State.setDec_xfer]
  split
  · split <;> rfl
  · rfl

theorem cancelXfer_setDec (s : State) (d : Decoder) :
    cancelXfer (s.setDec d) = (cancelXfer s).setDec d := by
  unfold cancelXfer
  rw [State.setDec_xfer]
  split <;> rfl

theorem trxdirWrite_setDec (v : Word64) (s : State) (d : Decoder) :
    trxdirWrite v (s.setDec d) = (trxdirWrite v s).setDec d := by
  unfold trxdirWrite
  dsimp only [State.setDec_reg]
  rw [setReg_setDec]
  split
  case h_1 => exact cancelXfer_setDec ..
  case h_2 dir _ =>
    rw [latchXfer_setDec, State.setDec_xfer]
    split
    case h_1 => rfl
    case h_2 =>
      rw [setDepth_setDec, State.setDec_xfer, localCopy_setDec]
      split
      · rfl
      · split <;> rfl

theorem kickPrim_setDec (s : State) (d : Decoder) :
    kickPrim (s.setDec d) = (kickPrim s).setDec d := by
  unfold kickPrim
  rw [State.setDec_reg]
  split <;> rfl

theorem commitVertex_setDec (x y : BitVec 16) (z : BitVec 32) (kick : Bool) (s : State)
    (d : Decoder) :
    commitVertex x y z kick (s.setDec d) = (commitVertex x y z kick s).setDec d := by
  unfold commitVertex
  dsimp only [State.setDec_reg, State.setDec_vq]
  rw [setVq_setDec, State.setDec_vq, kickPrim_setDec]
  split
  · rfl
  · cases kick <;> rfl

theorem putSignal_setDec (v : Word64) (s : State) (d : Decoder) :
    putSignal v (s.setDec d) = (putSignal v s).setDec d := by
  unfold putSignal
  dsimp only
  rw [State.setDec_priv]
  split <;> rfl

theorem putReg_setDec (r : GReg) (v : Word64) (s : State) (d : Decoder) :
    putReg r v (s.setDec d) = (putReg r v s).setDec d := by
  cases r
  case xyzf2 | xyz2 | xyzf3 | xyz3 =>
    exact commitVertex_setDec _ _ _ _ (s.setReg _) d
  case trxdir => exact trxdirWrite_setDec v s d
  case hwreg => exact hwregWrite_setDec v s d
  case signal => exact putSignal_setDec v s d
  all_goals rfl

theorem writeReg_setDec (id : BitVec 8) (v : Word64) (src : Src) (s : State) (d : Decoder) :
    writeReg id v src (s.setDec d) = (writeReg id v src s).setDec d := by
  unfold writeReg
  cases GReg.ofId id with
  | some r => exact putReg_setDec r v s d
  | none => rfl

theorem reglistWrite_setDec (k : BitVec 4) (v : Word64) (s : State) (d : Decoder) :
    reglistWrite k v (s.setDec d) = (reglistWrite k v s).setDec d := by
  unfold reglistWrite
  split
  · rfl
  · exact writeReg_setDec ..

theorem imageData_setDec (q : Qword) (s : State) (d : Decoder) :
    imageData q (s.setDec d) = (imageData q s).setDec d := by
  unfold imageData
  dsimp only
  rw [hwregWrite_setDec, hwregWrite_setDec, State.setDec_xfer, State.setDec_xfer]
  split <;> rfl

/-! ### Payload on the other path -/

/-- `s` with its packet on path PATH3. -/
def onPath3 (s : State) : State := s.setDec { s.dec with packetPath := .path3 }

theorem countUnit_packetPath (d : Decoder) (p : Path) :
    countUnit { d with packetPath := p } = { countUnit d with packetPath := p } := by
  unfold countUnit
  dsimp only
  split
  · rfl
  · split <;> rfl

theorem countImage_packetPath (d : Decoder) (p : Path) :
    countImage { d with packetPath := p } = { countImage d with packetPath := p } := by
  unfold countImage
  dsimp only
  split <;> rfl

theorem writeReg_onPath3 (id : BitVec 8) (v : Word64) (src : Src) (s : State) :
    writeReg id v src (onPath3 s) = onPath3 (writeReg id v src s) := by
  unfold onPath3
  rw [writeReg_setDec, writeReg_dec]

/-- A PACKED descriptor reads `packed_Q` of the decoder, and writes no more of it. -/
theorem packedWrite_onPath3 (k : BitVec 4) (q : Qword) (s : State) :
    packedWrite k q (onPath3 s) = onPath3 (packedWrite k q s) := by
  unfold packedWrite
  split
  case h_3 =>
    unfold packSt
    rw [writeReg_onPath3]
    rfl
  case h_12 | h_16 => rfl
  all_goals exact writeReg_onPath3 ..

theorem packedStep_onPath3 (q : Qword) (s : State) :
    packedStep q (onPath3 s) = onPath3 (packedStep q s) := by
  have hdesc : nextDescriptor (onPath3 s).dec = nextDescriptor s.dec := rfl
  unfold packedStep
  dsimp only
  rw [hdesc, packedWrite_onPath3]
  exact congrArg (State.setDec _) (countUnit_packetPath ..)

theorem slotStep_onPath3 (v : Word64) (s : State) :
    slotStep v (onPath3 s) = onPath3 (slotStep v s) := by
  have hdesc : nextDescriptor (onPath3 s).dec = nextDescriptor s.dec := rfl
  have hwrite : reglistWrite (nextDescriptor s.dec) v (onPath3 s) =
      onPath3 (reglistWrite (nextDescriptor s.dec) v s) := by
    unfold onPath3
    rw [reglistWrite_setDec, reglistWrite_dec]
  unfold slotStep
  dsimp only
  rw [hdesc, hwrite]
  exact congrArg (State.setDec _) (countUnit_packetPath ..)

theorem reglistStep_onPath3 (q : Qword) (s : State) :
    reglistStep q (onPath3 s) = onPath3 (reglistStep q s) := by
  unfold reglistStep
  dsimp only
  rw [slotStep_onPath3, slotStep_onPath3]
  exact (apply_ite onPath3 ..).symm

theorem imageStep_onPath3 (q : Qword) (s : State) :
    imageStep q (onPath3 s) = onPath3 (imageStep q s) := by
  have hdata : imageData q (onPath3 s) = onPath3 (imageData q s) := by
    unfold onPath3
    rw [imageData_setDec, imageData_dec]
  unfold imageStep
  dsimp only
  rw [hdata]
  exact congrArg (State.setDec _) (countImage_packetPath ..)

theorem payloadStep_onPath3 (q : Qword) (s : State) :
    payloadStep q (onPath3 s) = onPath3 (payloadStep q s) := by
  cases hf : formatOf s.dec.tag.flg
  case packed =>
    rw [payloadStep_packed hf, payloadStep_packed (s := onPath3 s) hf, packedStep_onPath3]
  case reglist =>
    rw [payloadStep_reglist hf, payloadStep_reglist (s := onPath3 s) hf, reglistStep_onPath3]
  case image =>
    rw [payloadStep_image hf, payloadStep_image (s := onPath3 s) hf, imageStep_onPath3]

/-! ### The two paths -/

/-- A tag latches the path it came on, and nothing else of it. -/
theorem readTag_path3 (flg : BitVec 2) (t : TagFields) (s : State) :
    readTag .path3 flg t (onPath3 s) = onPath3 (readTag .feed flg t s) := by
  rw [readTag_eq, readTag_eq, startPayload_latchTag_eq, startPayload_latchTag_eq]
  rfl

theorem onQword_path3 {s : State} (hacc : accepts .feed s.dec) (q : Qword) :
    onQword .path3 q (onPath3 s) = onPath3 (onQword .feed q s) := by
  have hacc3 : accepts .path3 (onPath3 s).dec := .inr rfl
  cases hstate : s.dec.decState
  case awaitingTag =>
    rw [onQword_tag hacc hstate, onQword_tag (s := onPath3 s) hacc3 hstate]
    exact readTag_path3 ..
  case processing =>
    rw [onQword_payload hacc hstate, onQword_payload (s := onPath3 s) hacc3 hstate]
    exact payloadStep_onPath3 q s

/-- Settles O35: in either state of the decoder the qword's effect carries over to the packet's
other path. -/
theorem pathsDecodeIdentically : Obligations.PathsDecodeIdentically := by
  unfold Obligations.PathsDecodeIdentically
  refine fun q s hacc => ⟨onQword .feed q s, exec_ingress .feed q s, ?_⟩
  exact (exec_ingress .path3 q (onPath3 s)).trans (congrArg _ (onQword_path3 hacc q))

end Sys2Proof.Proofs
end

section
/-! The family PACKED (41_packed.md R250 to R266): a descriptor's row is a register write of the
concatenation of its fields. The model places each field by a shift; the first part says that this
is the concatenation, and the rest compares the rows. -/

namespace Sys2Proof.Proofs
open Sys2Proof.Machine Sys2Proof.Claims

/-! ### The value of a row: fields placed by shifts are their concatenation -/

/-- A field placed just above the bits of `lo` joins them. -/
theorem or_shiftLeft_eq_setWidth_append {m n w : Nat} (lo : BitVec n) (hi : BitVec m) :
    lo.setWidth w ||| hi.setWidth w <<< n = (hi ++ lo).setWidth w := by
  rw [BitVec.setWidth_append_eq_shiftLeft_setWidth_or, BitVec.or_comm]

theorem st_fields_eq_append (x y : BitVec 32) :
    x.setWidth 64 ||| y.setWidth 64 <<< 32 = y ++ x := by
  rw [or_shiftLeft_eq_setWidth_append, BitVec.setWidth_eq]

theorem packedXyz_eq_append (x y : BitVec 16) (z : BitVec 32) :
    packedXyz x y z = z ++ y ++ x := by
  calc packedXyz x y z
    _ = (y ++ x).setWidth 64 ||| z.setWidth 64 <<< 32 := by
        rw [packedXyz, or_shiftLeft_eq_setWidth_append]
    _ = (z ++ (y ++ x)).setWidth 64 := or_shiftLeft_eq_setWidth_append ..
    _ = z ++ (y ++ x) := BitVec.setWidth_eq _
    _ = z ++ y ++ x := BitVec.append_assoc.symm

theorem packedXyzf_eq_append (x y : BitVec 16) (z : BitVec 24) (f : BitVec 8) :
    packedXyzf x y z f = f ++ z ++ y ++ x := by
  calc packedXyzf x y z f
    _ = (y ++ x).setWidth 64 ||| z.setWidth 64 <<< 32 ||| f.setWidth 64 <<< 56 := by
        rw [packedXyzf, or_shiftLeft_eq_setWidth_append]
    _ = (z ++ (y ++ x)).setWidth 64 ||| f.setWidth 64 <<< 56 := by
        rw [← or_shiftLeft_eq_setWidth_append (y ++ x) z]
    _ = (f ++ (z ++ (y ++ x))).setWidth 64 := or_shiftLeft_eq_setWidth_append ..
    _ = f ++ (z ++ (y ++ x)) := BitVec.setWidth_eq _
    _ = f ++ z ++ y ++ x := by rw [BitVec.append_assoc, BitVec.append_assoc]; rfl

theorem rgbaq_fields_eq_append (r g b a : BitVec 8) (q : BitVec 32) :
    r.setWidth 64 ||| g.setWidth 64 <<< 8 ||| b.setWidth 64 <<< 16 ||| a.setWidth 64 <<< 24 |||
      q.setWidth 64 <<< 32 = q ++ a ++ b ++ g ++ r := by
  calc r.setWidth 64 ||| g.setWidth 64 <<< 8 ||| b.setWidth 64 <<< 16 ||| a.setWidth 64 <<< 24 |||
      q.setWidth 64 <<< 32
    _ = (b ++ (g ++ r)).setWidth 64 ||| a.setWidth 64 <<< 24 ||| q.setWidth 64 <<< 32 := by
        rw [or_shiftLeft_eq_setWidth_append r, ← or_shiftLeft_eq_setWidth_append (g ++ r) b]
    _ = (q ++ (a ++ (b ++ (g ++ r)))).setWidth 64 := by
        rw [← or_shiftLeft_eq_setWidth_append _ q, ← or_shiftLeft_eq_setWidth_append _ a]
    _ = q ++ (a ++ (b ++ (g ++ r))) := BitVec.setWidth_eq _
    _ = q ++ a ++ b ++ g ++ r := by
        rw [BitVec.append_assoc, BitVec.append_assoc, BitVec.append_assoc]; rfl

theorem uv_fields_eq_append (u v : BitVec 14) :
    u.setWidth 64 ||| v.setWidth 64 <<< 16 = 0#34 ++ v ++ 0#2 ++ u := by
  calc u.setWidth 64 ||| v.setWidth 64 <<< 16
    _ = (0#34 ++ v ++ 0#2 ++ u).setWidth 64 := by
        rw [BitVec.setWidth_append_append_append_eq_shiftLeft_setWidth_or]
        simp [BitVec.or_comm]
    _ = 0#34 ++ v ++ 0#2 ++ u := BitVec.setWidth_eq _

theorem prim_field_eq_append (p : BitVec 11) : p.setWidth 64 = 0#53 ++ p := by
  calc p.setWidth 64
    _ = (0#53 ++ p).setWidth 64 := by
        rw [BitVec.setWidth_append_eq_shiftLeft_setWidth_or, BitVec.setWidth_zero,
          BitVec.zero_shiftLeft, BitVec.zero_or]
    _ = 0#53 ++ p := BitVec.setWidth_eq _

theorem fog_field_eq_append (f : BitVec 8) : f.setWidth 64 <<< 56 = f ++ 0#56 := by
  calc f.setWidth 64 <<< 56
    _ = (f ++ 0#56).setWidth 64 := by
        rw [BitVec.setWidth_append_eq_shiftLeft_setWidth_or, BitVec.setWidth_zero, BitVec.or_zero]
    _ = f ++ 0#56 := BitVec.setWidth_eq _

/-! ### The rows -/

/-- A row that runs the write port on the id of a register is that register's write. -/
theorem exec_packed_eq_register {i : Instr} {s : State} {r : GReg} {src : Src} {v w : Word64}
    (hrow : exec i s = .next (writeReg r.id v src s)) (hvalue : v = w) :
    ∃ t, exec i s = .next t ∧ exec (r.instr w) s = .next t := by
  subst hvalue
  exact ⟨writeReg r.id v src s, hrow, by rw [writeReg_id, exec_gregInstr]⟩

/-- ST is the register write, and latches its Q, the one field of the decoder it writes (R253). -/
theorem exec_pkSt_eq_register (sc tc qc : BitVec 32) (s : State) :
    ∃ t, exec (.pkSt sc tc qc) s = .next { t with dec := { s.dec with packedQ := qc } } ∧
      exec (.st (tc ++ sc)) s = .next t := by
  have hput : packSt sc tc qc s = latchQ qc (putReg .st (tc ++ sc) s) := by
    unfold packSt
    rw [st_fields_eq_append]
    exact congrArg (latchQ qc) (writeReg_id .st _ .packed s)
  refine ⟨putReg .st (tc ++ sc) s, ?_, exec_gregInstr .st _ s⟩
  show execPkSt sc tc qc s = _
  rw [execPkSt, hput, ← putReg_dec .st (tc ++ sc) s]
  rfl

/-- Settles O25: each row runs the write port on its register's id, the id of the row without a
kick where ADC is set, and its value is the concatenation of its fields. -/
theorem packedRowsWriteRegisters : Obligations.PackedRowsWriteRegisters := by
  unfold Obligations.PackedRowsWriteRegisters
  intro s
  refine ⟨?prim, ?rgbaq, ?st, ?uv, ?xyzf2, ?xyzf2Adc, ?xyz2, ?xyz2Adc, ?tex0_1, ?tex0_2, ?clamp_1,
    ?clamp_2, ?fog, ?xyzf3, ?xyz3⟩
  case prim =>
    exact fun p => exec_packed_eq_register (r := .prim) rfl (prim_field_eq_append p)
  case rgbaq =>
    exact fun r g b a =>
      exec_packed_eq_register (r := .rgbaq) rfl (rgbaq_fields_eq_append r g b a s.dec.packedQ)
  case st => exact fun sc tc qc => exec_pkSt_eq_register sc tc qc s
  case uv =>
    exact fun uc vc => exec_packed_eq_register (r := .uv) rfl (uv_fields_eq_append uc vc)
  case xyzf2 =>
    exact fun x y z f => exec_packed_eq_register (r := .xyzf2) rfl (packedXyzf_eq_append x y z f)
  case xyzf2Adc =>
    exact fun x y z f => exec_packed_eq_register (r := .xyzf3) rfl (packedXyzf_eq_append x y z f)
  case xyz2 =>
    exact fun x y z => exec_packed_eq_register (r := .xyz2) rfl (packedXyz_eq_append x y z)
  case xyz2Adc =>
    exact fun x y z => exec_packed_eq_register (r := .xyz3) rfl (packedXyz_eq_append x y z)
  case tex0_1 => exact fun v => exec_packed_eq_register (r := .tex0_1) rfl rfl
  case tex0_2 => exact fun v => exec_packed_eq_register (r := .tex0_2) rfl rfl
  case clamp_1 => exact fun v => exec_packed_eq_register (r := .clamp_1) rfl rfl
  case clamp_2 => exact fun v => exec_packed_eq_register (r := .clamp_2) rfl rfl
  case fog => exact fun f => exec_packed_eq_register (r := .fog) rfl (fog_field_eq_append f)
  case xyzf3 =>
    exact fun x y z f _ => exec_packed_eq_register (r := .xyzf3) rfl (packedXyzf_eq_append x y z f)
  case xyz3 =>
    exact fun x y z _ => exec_packed_eq_register (r := .xyz3) rfl (packedXyz_eq_append x y z)

/-- Settles O26: 0xB raises its record, 0xF is empty, and A+D is the write port, which is what the
decoded address runs for mapped and unmapped ids alike. -/
theorem packedReservedNopAndAD : Obligations.PackedReservedNopAndAD := by
  unfold Obligations.PackedReservedNopAndAD
  intro nb s
  have reservedB : exec .pkReservedB s = .next (raise (.unknownReg .packed 0x0B#8) s) := rfl
  have aD (addr : BitVec 8) (v : Word64) :
      exec (.pkAD addr v) s = .next (writeReg addr v .ad s) := rfl
  rw [raise_eq_reporting] at reservedB
  exact ⟨reservedB, rfl, fun addr v =>
    ⟨writeReg addr v .ad s, aD addr v, exec_decode_reg nb .ad addr v s⟩⟩

end Sys2Proof.Proofs
end

section
/-! The family General registers, writes without a vertex (42_general_registers.md R280 to R335):
stores, merges under a mask, and the ways to write PRIM. -/

namespace Sys2Proof.Proofs
open Sys2Proof.Machine Sys2Proof.Claims

/-! ### Registers that only store (10_state.md R24) -/

theorem putReg_of_plainStore {r : GReg} (h : r ∈ singleStores ++ ownCopyStores) (v : Word64)
    (s : State) : putReg r v s = { s with reg := (putReg r v s).reg } := by
  cases r
  case prim | xyzf2 | xyz2 | xyzf3 | xyz3 | trxdir | hwreg | signal | finish | label =>
    exact absurd h (by decide)
  all_goals rfl

/-- A plain store gives its value to the copy its id names, and leaves every other register and the
other copy of its pair. -/
theorem stored_putReg {r : GReg} (h : r ∈ singleStores ++ ownCopyStores) (r' : GReg) (v : Word64)
    (s : State) :
    stored r' (putReg r v s).reg = if r' = r then some v else stored r' s.reg := by
  cases r
  case prim | xyzf2 | xyz2 | xyzf3 | xyz3 | tex2_1 | tex2_2 | xyoffset_1 | xyoffset_2 | texflush |
      scissor_1 | scissor_2 | test_1 | test_2 | frame_1 | frame_2 | zbuf_1 | zbuf_2 | trxdir |
      hwreg | signal | finish | label =>
    exact absurd h (by decide)
  all_goals cases r' <;> rfl

/-- Settles O13: the write port stores the value in the register's own cell and in no other. -/
theorem storesKeepAllBits : Obligations.StoresKeepAllBits := by
  unfold Obligations.StoresKeepAllBits
  refine fun r v s hr => ⟨(putReg r v s).reg, ?next, ?same, fun r' hne => ?other⟩
  case next => rw [exec_gregInstr, ← putReg_of_plainStore hr]
  case same => rw [stored_putReg hr, if_pos rfl]
  case other => rw [stored_putReg hr, if_neg hne]

/-! ### Registers written in the active context (R281) -/

/-- The model's choice of a copy and its write of it are those of R281. -/
theorem set_ctxSel (p : Pair) (s : State) (n : Ctx) (v : Word64) :
    p.set (ctxSel s.cfg s.reg n) v = setCopy p (copyReached s n) v := by
  show p.set (copyReached s n) v = _
  cases copyReached s n <;> rfl

/-- Settles O14: each of the ten ids runs the write port, which selects the copy by R281. -/
theorem activeContextIsWritten : Obligations.ActiveContextIsWritten := by
  unfold Obligations.ActiveContextIsWritten
  intro v s
  simp only [← set_ctxSel]
  exact ⟨exec_gregInstr .xyoffset_1 v s, exec_gregInstr .xyoffset_2 v s,
    exec_gregInstr .scissor_1 v s, exec_gregInstr .scissor_2 v s,
    exec_gregInstr .test_1 v s, exec_gregInstr .test_2 v s,
    exec_gregInstr .frame_1 v s, exec_gregInstr .frame_2 v s,
    exec_gregInstr .zbuf_1 v s, exec_gregInstr .zbuf_2 v s⟩

/-! ### Merges under a mask: TEX2, SIGNAL, LABEL (R297, R298, R333, R335) -/

/-- The bits of a word replaced under a mask. -/
theorem getLsbD_mask_merge {w : Nat} (old new mask : BitVec w) {i : Nat} (hi : i < w) :
    ((old &&& ~~~mask) ||| (new &&& mask)).getLsbD i =
      if mask.getLsbD i then new.getLsbD i else old.getLsbD i := by
  rw [BitVec.getLsbD_or, BitVec.getLsbD_and, BitVec.getLsbD_and, BitVec.getLsbD_not]
  cases mask.getLsbD i <;> simp [hi]

/-- The mask of TEX2 is PSM, bits [25:20], and the CLUT fields, bits [63:37]. -/
theorem getLsbD_tex2Mask :
    ∀ i < 64, tex2Mask.getLsbD i = decide ((20 ≤ i ∧ i ≤ 25) ∨ 37 ≤ i) := by
  decide

theorem getLsbD_tex2_merge (old v : Word64) {i : Nat} (hi : i < 64) :
    ((old &&& ~~~tex2Mask) ||| (v &&& tex2Mask)).getLsbD i =
      if (20 ≤ i ∧ i ≤ 25) ∨ 37 ≤ i then v.getLsbD i else old.getLsbD i := by
  rw [getLsbD_mask_merge _ _ _ hi, getLsbD_tex2Mask i hi]
  simp only [decide_eq_true_eq]

/-- Settles O15: TEX2 is a store to TEX0 of its copy, merged under the mask. -/
theorem tex2MergesIntoTex0 : Obligations.Tex2MergesIntoTex0 := by
  unfold Obligations.Tex2MergesIntoTex0
  exact fun v s => ⟨⟨_, exec_gregInstr .tex2_1 v s, fun _ hi => getLsbD_tex2_merge _ v hi⟩,
    ⟨_, exec_gregInstr .tex2_2 v s, fun _ hi => getLsbD_tex2_merge _ v hi⟩⟩

/-- The bits of an id replaced under the mask of a SIGNAL or LABEL value: the id is its low half and
the mask its high half. -/
theorem getLsbD_mergeId (old : Word32) (v : Word64) {i : Nat} (hi : i < 32) :
    (mergeId old (signalID v) (signalIDMSK v)).getLsbD i =
      if v.getLsbD (i + 32) then v.getLsbD i else old.getLsbD i := by
  rw [mergeId, getLsbD_mask_merge _ _ _ hi]
  simp [signalID, signalIDMSK, hi, Nat.add_comm]

/-- SIGLBLID after a SIGNAL: SIGID merged, LBLID kept (R333). -/
theorem getLsbD_signal_siglblid (old v : Word64) {i : Nat} (hi : i < 64) :
    (siglblidLBLID old ++ mergeId (siglblidSIGID old) (signalID v) (signalIDMSK v)).getLsbD i =
      if i < 32 ∧ v.getLsbD (i + 32) = true then v.getLsbD i else old.getLsbD i := by
  rw [BitVec.getLsbD_append]
  by_cases hlow : i < 32
  · rw [if_pos hlow, getLsbD_mergeId _ v hlow]
    simp [hlow, siglblidSIGID]
  · simp [hlow, siglblidLBLID, show i - 32 < 32 by omega, show 32 + (i - 32) = i by omega]

/-- SIGLBLID after a LABEL: LBLID merged, SIGID kept (R335). -/
theorem getLsbD_label_siglblid (old v : Word64) {i : Nat} (hi : i < 64) :
    (mergeId (siglblidLBLID old) (signalID v) (signalIDMSK v) ++ siglblidSIGID old).getLsbD i =
      if 32 ≤ i ∧ v.getLsbD i = true then v.getLsbD (i - 32) else old.getLsbD i := by
  rw [BitVec.getLsbD_append]
  by_cases hlow : i < 32
  · simp [hlow, siglblidSIGID, show ¬ 32 ≤ i by omega]
  · have hback : i - 32 + 32 = i := by omega
    rw [if_neg hlow, getLsbD_mergeId _ v (by omega), hback]
    simp [siglblidLBLID, show i - 32 < 32 by omega, show 32 ≤ i by omega,
      show 32 + (i - 32) = i by omega]

theorem reporting_nil (s : State) : reporting [] s = s := by
  simp [reporting]

/-- A SIGNAL still pending is reported, and the write is the same with and without it (R333). -/
theorem putSignal_eq (v : Word64) (s : State) :
    putSignal v s = { reporting
      (if s.priv.csrSignal then [.unmodelled .signalPending] else []) s with
      priv := { s.priv with
        siglblid := siglblidLBLID s.priv.siglblid ++
          mergeId (siglblidSIGID s.priv.siglblid) (signalID v) (signalIDMSK v)
        csrSignal := true } } := by
  unfold putSignal
  cases s.priv.csrSignal
  case false => rw [if_neg (by decide), if_neg (by decide), reporting_nil]; rfl
  case true => rw [if_pos rfl, if_pos rfl, ← raise_eq_reporting]; rfl

/-- Settles O18, by the two values of CSR.SIGNAL and the two halves of SIGLBLID. -/
theorem signalMergesItsId : Obligations.SignalMergesItsId := by
  unfold Obligations.SignalMergesItsId
  refine fun v s => ⟨_, ?_, fun _ hi => getLsbD_signal_siglblid s.priv.siglblid v hi⟩
  rw [← putSignal_eq]
  exact exec_gregInstr .signal v s

/-- Settles O19: FINISH and TEXFLUSH are their rows, and LABEL merges the high half of SIGLBLID. -/
theorem finishLabelAndTexflush : Obligations.FinishLabelAndTexflush := by
  unfold Obligations.FinishLabelAndTexflush
  exact fun v s => ⟨exec_gregInstr .finish v s,
    ⟨_, exec_gregInstr .label v s, fun _ hi => getLsbD_label_siglblid s.priv.siglblid v hi⟩,
    exec_gregInstr .texflush v s⟩

/-! ### The ways to write PRIM (R282) -/

/-- A row that runs the write port on the id of PRIM, from any source, stores PRIM and empties the
vertex queue. -/
theorem exec_of_writeReg_prim {i : Instr} {v : Word64} {src : Src} {s : State}
    (hrow : exec i s = .next (writeReg GReg.prim.id v src s)) :
    exec i s = .next { s with reg := { s.reg with prim := v }, vq := [] } := by
  rw [hrow, writeReg_id]
  rfl

/-- Settles O16: every path but the tag's runs the write port on the id of PRIM, and a tag with
PRE = 1 does so besides starting its payload. -/
theorem primEmptiesTheQueue : Obligations.PrimEmptiesTheQueue := by
  unfold Obligations.PrimEmptiesTheQueue
  refine fun v p s => ⟨exec_gregInstr .prim v s, ?reglist, ?aD, ?host, ?packed,
    fun row hrow path t hpre => ⟨startPayload row.1 t (latchTag path row.1 t s.dec), ?tag⟩⟩
  case reglist => exact exec_of_writeReg_prim (src := .reglist) rfl
  case aD => exact exec_of_writeReg_prim (src := .ad) rfl
  case host => exact exec_of_writeReg_prim (src := .host) rfl
  case packed =>
    rw [← prim_field_eq_append]
    exact exec_of_writeReg_prim (src := .packed) rfl
  case tag => rw [exec_tagRow hrow, readTag_eq, if_pos hpre, if_pos hpre]

end Sys2Proof.Proofs
end

section
/-! The family General registers, vertices (42_general_registers.md R286, R287, R293, R294;
43_primitive_assembler.md R350 to R355): the four XYZ rows are one operation, a store and a vertex
commit, so what a commit does is said once for all of them. -/

namespace Sys2Proof.Proofs
open Sys2Proof.Machine Sys2Proof.Claims

/-! ### The tables of the primitive types (R355) -/

theorem typeNamed_typeCode (f : RegFile) : typeNamed (typeCode f) = primTypeOf f.prim := by
  unfold typeNamed typeCode primTypeOf primPRIM
  generalize f.prim.extractLsb' 0 3 = t
  revert t
  decide

theorem needed_eq_vertsNeeded (t : BitVec 3) : needed t = vertsNeeded (typeNamed t) := by
  revert t
  decide

/-- Type 7 is the one reserved type (R363). -/
theorem typeNamed_eq_reserved_iff (t : BitVec 3) : typeNamed t = .reserved ↔ t = 7#3 := by
  revert t
  decide

/-- The model keeps of a whole primitive the vertices that the table of R355 names. -/
theorem vertsKept_eq_kept {t : BitVec 3} {vq : List Vertex} (h : vq.length = needed t) :
    vertsKept (typeNamed t) vq = kept t vq := by
  have hcodes : ∀ t : BitVec 3, t = 0#3 ∨ t = 1#3 ∨ t = 2#3 ∨ t = 3#3 ∨ t = 4#3 ∨ t = 5#3 ∨
      t = 6#3 ∨ t = 7#3 := by decide
  rcases hcodes t with rfl | rfl | rfl | rfl | rfl | rfl | rfl | rfl
  case inr.inr.inl =>
    obtain ⟨v0, v1, rfl⟩ := List.length_eq_two.mp h
    rfl
  case inr.inr.inr.inr.inl | inr.inr.inr.inr.inr.inl =>
    obtain ⟨v0, v1, v2, rfl⟩ := List.length_eq_three.mp h
    rfl
  all_goals rfl

/-! ### The four rows as a store and a commit -/

/-- The F of an XYZF write takes the place of FOG bits [63:56] (R286). -/
theorem fogWithF_eq_append (fog v : Word64) :
    fogWithF fog v = v.extractLsb' 56 8 ++ fog.extractLsb' 0 56 := by
  have hlow : fog &&& 0x00FFFFFFFFFFFFFF#64 = (fog.extractLsb' 0 56).setWidth 64 := by
    ext i hi
    have hmask : ∀ i < 64, (0x00FFFFFFFFFFFFFF#64).getLsbD i = decide (i < 56) := by decide
    simp [← BitVec.getLsbD_eq_getElem, hmask i hi, hi, Bool.and_comm]
  calc fogWithF fog v
    _ = (fog.extractLsb' 0 56).setWidth 64 ||| (v.extractLsb' 56 8).setWidth 64 <<< 56 := by
        rw [← hlow]
        rfl
    _ = (v.extractLsb' 56 8 ++ fog.extractLsb' 0 56).setWidth 64 :=
        or_shiftLeft_eq_setWidth_append ..
    _ = v.extractLsb' 56 8 ++ fog.extractLsb' 0 56 := BitVec.setWidth_eq _

/-- The 24 bits of an XYZF position's Z, zero-extended (R350). -/
theorem xyzfZ_eq_append (v : Word64) : (xyzfZ v).setWidth 32 = 0#8 ++ v.extractLsb' 32 24 := by
  rw [xyzfZ, BitVec.setWidth_eq_append (by decide)]
  rfl

/-- What every XYZ write does: it stores its register, F too for the XYZF rows, and commits the
vertex at its position (R286, R287, R293, R294). -/
theorem exec_xyzRow {row : XyzRow} (hrow : row ∈ xyzRows) (v : Word64) (s : State) :
    exec (row.instr v) s = .next (commitVertex (v.extractLsb' 0 16) (v.extractLsb' 16 16)
      (row.depth v) row.kick (s.setReg (row.file v s))) := by
  simp only [xyzRows, List.mem_cons, List.not_mem_nil, or_false] at hrow
  rcases hrow with rfl | rfl | rfl | rfl
  case inl | inr.inr.inl =>
    simp only [rowXyzf2, rowXyzf3, XyzRow.file, ← fogWithF_eq_append, ← xyzfZ_eq_append]
    rfl
  case inr.inl | inr.inr.inr => rfl

/-- An XYZ write leaves PRIM, so the type is the one before it. -/
theorem typeCode_file {row : XyzRow} (hrow : row ∈ xyzRows) (v : Word64) (s : State) :
    typeCode (row.file v s) = typeCode s.reg := by
  simp only [xyzRows, List.mem_cons, List.not_mem_nil, or_false] at hrow
  rcases hrow with rfl | rfl | rfl | rfl <;> rfl

theorem captureVertex_eq_vertexOf (f : RegFile) (v : Word64) (z : BitVec 32) :
    captureVertex f (v.extractLsb' 0 16) (v.extractLsb' 16 16) z = vertexOf f v z := rfl

theorem XyzRow.length_queue (row : XyzRow) (v : Word64) (s : State) :
    (row.queue v s).length = s.vq.length + 1 := by
  simp [XyzRow.queue]

/-- The type that the commit of an XYZ write reads, by its code. -/
theorem primTypeOf_file {row : XyzRow} (hrow : row ∈ xyzRows) (v : Word64) (s : State) :
    primTypeOf (row.file v s).prim = typeNamed (typeCode s.reg) := by
  rw [← typeNamed_typeCode, typeCode_file hrow]

/-- Settles O20: a store, and the commit of a vertex that leaves the queue short of NEEDED. -/
theorem vertexIsQueued : Obligations.VertexIsQueued := by
  unfold Obligations.VertexIsQueued
  intro row hrow v s hshort
  rw [needed_eq_vertsNeeded, ← primTypeOf_file hrow v s] at hshort
  rw [exec_xyzRow hrow, commitVertex_short _ hshort]
  rfl

/-- An XYZ write that does not leave the queue short: the kick, if the row has one, on the whole
queue, then the vertices that the type keeps (R352). -/
theorem exec_xyzRow_full {row : XyzRow} (hrow : row ∈ xyzRows) {v : Word64} {s : State}
    (hfull : s.vq.length + 1 = needed (typeCode s.reg)) :
    exec (row.instr v) s = .next ((if row.kick
      then kickPrim ((s.setReg (row.file v s)).setVq (row.queue v s))
      else (s.setReg (row.file v s)).setVq (row.queue v s)).setVq
        (kept (typeCode s.reg) (row.queue v s))) := by
  have hqueue : (row.queue v s).length = needed (typeCode s.reg) :=
    (XyzRow.length_queue row v s).trans hfull
  have hcommit : ¬ s.vq.length + 1 < vertsNeeded (primTypeOf (row.file v s).prim) := by
    rw [primTypeOf_file hrow, ← needed_eq_vertsNeeded]
    omega
  rw [exec_xyzRow hrow, commitVertex_full _ hcommit, ← vertsKept_eq_kept hqueue,
    ← primTypeOf_file hrow v s]
  rfl

/-- The effective flags, from PRIM or PRMODE (R351). -/
theorem effectiveFlags_eq_flagsOf (f : RegFile) : effectiveFlags f = flagsOf f := by
  unfold effectiveFlags flagsOf prmodecontAC
  cases f.prmodecont.getLsbD 0 <;> rfl

/-- The draw of a queue of exactly NEEDED vertices has all of them (R353). -/
theorem drawEvent_eq_event {row : XyzRow} {v : Word64} {s : State}
    (hfull : s.vq.length + 1 = needed (typeCode s.reg)) :
    drawEvent (row.file v s) (typeNamed (typeCode s.reg)) (row.queue v s) = row.event v s := by
  have htake : (row.queue v s).take (vertsNeeded (typeNamed (typeCode s.reg))) = row.queue v s := by
    rw [← needed_eq_vertsNeeded, ← hfull, ← XyzRow.length_queue row v s, List.take_length]
  unfold drawEvent
  rw [htake, effectiveFlags_eq_flagsOf]
  rfl

/-- Settles O21: the kick of a type that is not reserved is the draw of the whole queue. -/
theorem kickDraws : Obligations.KickDraws := by
  unfold Obligations.KickDraws
  intro row hrow hkick v s htype hfull
  have hnamed : primTypeOf (row.file v s).prim ≠ .reserved := by
    rw [primTypeOf_file hrow, Ne, typeNamed_eq_reserved_iff]
    exact htype
  have hdraw : kickPrim ((s.setReg (row.file v s)).setVq (row.queue v s)) =
      emitDraw (typeNamed (typeCode s.reg)) ((s.setReg (row.file v s)).setVq (row.queue v s)) := by
    rcases kickPrim_cases ((s.setReg (row.file v s)).setVq (row.queue v s)) with ⟨hres, _⟩ | ⟨_, h⟩
    · exact absurd hres hnamed
    · rw [h, ← primTypeOf_file hrow v s]
      rfl
  rw [exec_xyzRow_full hrow hfull, if_pos hkick, hdraw, ← drawEvent_eq_event hfull]
  rfl

end Sys2Proof.Proofs
end

section
/-! The family Primitive assembler (43_primitive_assembler.md R356 to R365): which writes leave the
vertex queue, the commits that draw nothing, and what a run of commits draws. -/

namespace Sys2Proof.Proofs
open Sys2Proof.Machine Sys2Proof.Claims

/-! ### Writes that leave the queue (R364) -/

/-- Of the write port's registers only PRIM and the XYZ registers reach the queue: the rest store,
move the transfer engine, or write SIGLBLID and CSR. -/
theorem putReg_vq {r : GReg} (hr : r ∉ [GReg.prim, GReg.xyzf2, GReg.xyz2, GReg.xyzf3, GReg.xyz3])
    (v : Word64) (s : State) : (putReg r v s).vq = s.vq := by
  cases r
  case prim | xyzf2 | xyz2 | xyzf3 | xyz3 => exact absurd (by decide) hr
  case trxdir => exact (trxdirWrite_engineFrame v s).vq
  case hwreg => exact (hwregWrite_engineFrame v s).vq
  case signal =>
    rw [show putReg .signal v s = putSignal v s from rfl, putSignal_eq]
    rfl
  all_goals rfl

/-- Settles O17: a register's row is its write through the port. -/
theorem otherWritesKeepTheQueue : Obligations.OtherWritesKeepTheQueue := by
  unfold Obligations.OtherWritesKeepTheQueue
  intro r v s t hr hexec
  rw [exec_gregInstr] at hexec
  cases hexec
  exact putReg_vq hr v s

/-! ### Commits that draw nothing (R363, R365) -/

/-- Settles O22: the commit of a whole queue without its kick. -/
theorem noKickDrawsNothing : Obligations.NoKickDrawsNothing := by
  unfold Obligations.NoKickDrawsNothing
  intro row hrow hkick v s hfull
  rw [exec_xyzRow_full hrow hfull, hkick, if_neg Bool.false_ne_true]
  rfl

/-- A kick of the reserved type is its error record. -/
theorem kickPrim_reserved {s : State} (h : primTypeOf s.reg.prim = .reserved) :
    kickPrim s = reporting [.primReserved s.reg.prim] s := by
  rcases kickPrim_cases s with ⟨_, hkick⟩ | ⟨hne, _⟩
  · rw [hkick, raise_eq_reporting]
  · exact absurd h hne

/-- A commit of the reserved type, which needs one vertex and keeps none: no queue is short of it,
and a kick is reported. -/
theorem commitVertex_reserved {x y : BitVec 16} {z : BitVec 32} (kick : Bool) {s : State}
    (h : primTypeOf s.reg.prim = .reserved) :
    commitVertex x y z kick s =
      { reporting (if kick then [.primReserved s.reg.prim] else []) s with vq := [] } := by
  have hfull : ¬ s.vq.length + 1 < vertsNeeded (primTypeOf s.reg.prim) := by
    rw [h, vertsNeeded]
    omega
  rw [commitVertex_full kick hfull, h, vertsKept]
  cases kick
  case false =>
    rw [if_neg Bool.false_ne_true, if_neg Bool.false_ne_true, reporting_nil]
    rfl
  case true =>
    have hkick := kickPrim_reserved (s := s.setVq (s.vq ++ [captureVertex s.reg x y z])) h
    rw [if_pos rfl, if_pos rfl, hkick]
    rfl

/-- An XYZ write leaves PRIM. -/
theorem prim_file {row : XyzRow} (hrow : row ∈ xyzRows) (v : Word64) (s : State) :
    (row.file v s).prim = s.reg.prim := by
  simp only [xyzRows, List.mem_cons, List.not_mem_nil, or_false] at hrow
  rcases hrow with rfl | rfl | rfl | rfl <;> rfl

/-- Settles O23: the commit reads the PRIM that the row's store leaves. -/
theorem reservedTypeIsReported : Obligations.ReservedTypeIsReported := by
  unfold Obligations.ReservedTypeIsReported
  intro row hrow v s htype
  have hres : primTypeOf (row.file v s).prim = .reserved := by
    rw [primTypeOf_file hrow, typeNamed_eq_reserved_iff]
    exact htype
  rw [exec_xyzRow hrow, commitVertex_reserved _ hres, ← prim_file hrow v s]
  rfl

/-! ### The primitives of a run (R356 to R362) -/

/-- The queues that a run of commits completes: from a queue `q`, each new vertex joins it, and one
of `n` vertices is given out and shrinks to what `keep` keeps of it. -/
def assemble {α : Type} (n : Nat) (keep : List α → List α) (q ws : List α) : List (List α) :=
  match ws with
  | [] => []
  | w :: ws =>
    if q.length + 1 < n then assemble n keep (q ++ [w]) ws
    else (q ++ [w]) :: assemble n keep (keep (q ++ [w])) ws

theorem assemble_short {α : Type} {n : Nat} {keep : List α → List α} {q : List α} (w : α)
    (ws : List α) (h : q.length + 1 < n) :
    assemble n keep q (w :: ws) = assemble n keep (q ++ [w]) ws := if_pos h

theorem assemble_full {α : Type} {n : Nat} {keep : List α → List α} {q : List α} (w : α)
    (ws : List α) (h : q.length + 1 = n) :
    assemble n keep q (w :: ws) = (q ++ [w]) :: assemble n keep (keep (q ++ [w])) ws :=
  if_neg (by omega)

/-- What a type keeps of a whole primitive is short of the next one. -/
theorem length_kept_lt {t : BitVec 3} {vq : List Vertex} (h : vq.length = needed t) :
    (kept t vq).length < needed t := by
  rw [← vertsKept_eq_kept h, needed_eq_vertsNeeded]
  exact vertsKept_length (by rw [h, needed_eq_vertsNeeded])

/-- What an XYZ2 write does to what a run of them draws: the attributes, the type and the report
stay; the vertex joins the queue, or the queue it completes is drawn and shrinks. -/
theorem exec_xyz2 (v : Word64) {s : State} (htype : typeCode s.reg ≠ 7#3)
    (hq : s.vq.length < needed (typeCode s.reg)) :
    ∃ t, exec (.xyz2 v) s = .next t ∧
      vertexOf t.reg = vertexOf s.reg ∧ typeCode t.reg = typeCode s.reg ∧
      t.out.report = s.out.report ∧
      ((s.vq.length + 1 < needed (typeCode s.reg) ∧ t.vq = rowXyz2.queue v s ∧
          t.out.draws = s.out.draws) ∨
        (s.vq.length + 1 = needed (typeCode s.reg) ∧
          t.vq = kept (typeCode s.reg) (rowXyz2.queue v s) ∧
          t.out.draws = s.out.draws ++ [rowXyz2.event v s])) := by
  have hrow : rowXyz2 ∈ xyzRows := by simp [xyzRows]
  rcases Nat.lt_or_eq_of_le (Nat.succ_le_of_lt hq) with hshort | hfull
  · exact ⟨_, vertexIsQueued rowXyz2 hrow v s hshort, rfl, rfl, rfl, .inl ⟨hshort, rfl, rfl⟩⟩
  · exact ⟨_, kickDraws rowXyz2 hrow rfl v s htype hfull, rfl, rfl, rfl, .inr ⟨hfull, rfl, rfl⟩⟩

theorem runAll_cons_of_next {i : Instr} {is : List Instr} {s t : State} (h : exec i s = .next t) :
    runAll (i :: is) s = runAll is t := by
  rw [runAll, h]

/-- A run of XYZ2 writes draws the queues it completes and reports nothing. -/
theorem runAll_xyz2 (vs : List Word64) (s : State) (htype : typeCode s.reg ≠ 7#3)
    (hq : s.vq.length < needed (typeCode s.reg)) :
    ∃ t, runAll (vs.map Instr.xyz2) s = .next t ∧
      t.out.report = s.out.report ∧
      t.out.draws.map DrawEvent.verts = s.out.draws.map DrawEvent.verts ++
        assemble (needed (typeCode s.reg)) (kept (typeCode s.reg)) s.vq
          (vs.map (fun v => vertexOf s.reg v (v.extractLsb' 32 32))) := by
  induction vs generalizing s with
  | nil => exact ⟨s, rfl, rfl, (List.append_nil _).symm⟩
  | cons v vs ih =>
    obtain ⟨u, hexec, hattrs, hcode, hreport, hqueue⟩ := exec_xyz2 v htype hq
    have hlen := XyzRow.length_queue rowXyz2 v s
    have hrun := ih u (hcode ▸ htype)
    rw [hattrs, hcode, hreport] at hrun
    rw [List.map_cons, List.map_cons, runAll_cons_of_next hexec]
    rcases hqueue with ⟨hshort, hvq, hdraws⟩ | ⟨hfull, hvq, hdraws⟩ <;> rw [hvq, hdraws] at hrun
    · rw [assemble_short _ _ hshort]
      exact hrun (hlen.trans_lt hshort)
    · rw [assemble_full _ _ hfull, List.append_cons]
      rw [List.map_append] at hrun
      exact hrun (length_kept_lt (hlen.trans hfull))

/-! ### The lists of primitives -/

theorem chunks_of_length_lt {α : Type} {n : Nat} {l : List α} (h : l.length < n) :
    chunks n l = [] := by
  simp [chunks, Nat.div_eq_of_lt h]

theorem chunks_append {α : Type} {n : Nat} (hn : 0 < n) {w : List α} (hw : w.length = n)
    (l : List α) : chunks n (w ++ l) = w :: chunks n l := by
  subst hw
  have hdrop (i : Nat) : (w ++ l).drop (w.length * (i + 1)) = l.drop (w.length * i) := by
    rw [Nat.mul_succ, Nat.add_comm, List.drop_length_add_append]
  simp [chunks, Nat.add_div_left _ hn, List.range_succ_eq_map, Function.comp_def, hdrop]

theorem windows_of_length_lt {α : Type} {n : Nat} {l : List α} (h : l.length < n) :
    windows n l = [] := by
  simp [windows, Nat.sub_eq_zero_of_le h]

theorem windows_cons {α : Type} {n : Nat} (a : α) {l : List α} (h : n ≤ l.length + 1) :
    windows n (a :: l) = (a :: l).take n :: windows n l := by
  simp [windows, Nat.succ_sub h, List.range_succ_eq_map, Function.comp_def]

theorem windows_append {α : Type} {n : Nat} (hn : 0 < n) {w : List α} (hw : w.length = n)
    (l : List α) : windows n (w ++ l) = w :: windows n (w.drop 1 ++ l) := by
  obtain ⟨a, w, rfl⟩ := List.exists_cons_of_length_pos (hw ▸ hn)
  rw [List.cons_append, windows_cons a (by simp [← hw]), ← List.cons_append, List.take_left' hw]
  rfl

theorem fans_cons_cons_cons {α : Type} (a b c : α) (l : List α) :
    fans (a :: b :: c :: l) = [a, b, c] :: fans (a :: c :: l) :=
  congrArg (List.map ([a] ++ ·)) (windows_cons b (l := c :: l) (by simp))

theorem fans_of_length_lt {α : Type} {l : List α} (h : l.length < 3) : fans l = [] := by
  rw [fans, windows_of_length_lt (by rw [List.length_drop]; omega), List.map_nil]

/-- A queue that keeps nothing gives its vertices out in runs one after the other. -/
theorem assemble_eq_chunks {α : Type} {n : Nat} {keep : List α → List α}
    (hkeep : ∀ q, q.length = n → keep q = []) {q : List α} (hq : q.length < n) (ws : List α) :
    assemble n keep q ws = chunks n (q ++ ws) := by
  induction ws generalizing q with
  | nil => rw [List.append_nil, chunks_of_length_lt hq, assemble]
  | cons w ws ih =>
    rw [List.append_cons]
    have hlen : (q ++ [w]).length = q.length + 1 := by simp
    rcases Nat.lt_or_eq_of_le (Nat.succ_le_of_lt hq) with hshort | hfull
    · rw [assemble_short w ws hshort, ih (hlen.trans_lt hshort)]
    · have hw := hlen.trans hfull
      rw [assemble_full w ws hfull, hkeep _ hw, ih (by simpa using hq.pos), List.nil_append,
        chunks_append hq.pos hw]

/-- A queue that keeps all but its oldest vertex gives out every run of neighbours. -/
theorem assemble_eq_windows {α : Type} {n : Nat} {keep : List α → List α}
    (hkeep : ∀ q, q.length = n → keep q = q.drop 1) {q : List α} (hq : q.length < n)
    (ws : List α) : assemble n keep q ws = windows n (q ++ ws) := by
  induction ws generalizing q with
  | nil => rw [List.append_nil, windows_of_length_lt hq, assemble]
  | cons w ws ih =>
    rw [List.append_cons]
    have hlen : (q ++ [w]).length = q.length + 1 := by simp
    rcases Nat.lt_or_eq_of_le (Nat.succ_le_of_lt hq) with hshort | hfull
    · rw [assemble_short w ws hshort, ih (hlen.trans_lt hshort)]
    · have hw := hlen.trans hfull
      rw [assemble_full w ws hfull, hkeep _ hw, ih (by simp; omega), windows_append hq.pos hw]

/-- A queue of three that keeps its first and its last vertex gives out a fan. -/
theorem assemble_eq_fans {α : Type} {keep : List α → List α}
    (hkeep : ∀ a b c, keep [a, b, c] = [a, c]) {q : List α} (hq : q.length < 3) (ws : List α) :
    assemble 3 keep q ws = fans (q ++ ws) := by
  induction ws generalizing q with
  | nil => rw [List.append_nil, fans_of_length_lt hq, assemble]
  | cons w ws ih =>
    rcases Nat.lt_or_eq_of_le (Nat.succ_le_of_lt hq) with hshort | hfull
    · rw [List.append_cons, assemble_short w ws hshort, ih (by simpa using hshort)]
    · obtain ⟨a, b, rfl⟩ := List.length_eq_two.mp (Nat.succ.inj hfull)
      rw [assemble_full w ws hfull]
      show [a, b, w] :: assemble 3 keep (keep [a, b, w]) ws = fans (a :: b :: w :: ws)
      rw [hkeep, ih (by simp), fans_cons_cons_cons]
      rfl

/-- From an empty queue, each type's commits complete its primitives. -/
theorem assemble_eq_primitives {t : BitVec 3} (ht : t ≠ 7#3) (l : List Vertex) :
    assemble (needed t) (kept t) [] l = primitives t l := by
  have hcode {n : Nat} (h : t.toNat = n) : t = BitVec.ofNat 3 n := by
    rw [← h, BitVec.ofNat_toNat, BitVec.setWidth_eq]
  unfold primitives
  split
  case h_1 h | h_2 h | h_4 h | h_7 h =>
    obtain rfl := hcode h
    exact assemble_eq_chunks (fun _ _ => rfl) (by decide) l
  case h_3 h =>
    obtain rfl := hcode h
    refine assemble_eq_windows (fun q hlen => ?_) (by decide) l
    obtain ⟨v0, v1, rfl⟩ := List.length_eq_two.mp hlen
    rfl
  case h_5 h =>
    obtain rfl := hcode h
    refine assemble_eq_windows (fun q hlen => ?_) (by decide) l
    obtain ⟨v0, v1, v2, rfl⟩ := List.length_eq_three.mp hlen
    rfl
  case h_6 h =>
    obtain rfl := hcode h
    exact assemble_eq_fans (fun _ _ _ => rfl) (by decide) l
  case h_8 h0 h1 h2 h3 h4 h5 h6 =>
    simp only [imp_false] at h0 h1 h2 h3 h4 h5 h6
    have hlt : t.toNat < 8 := t.isLt
    exact absurd (hcode (by omega : t.toNat = 7)) ht

/-- Settles O24: the run draws the queues it completes, and from an empty queue these are the
primitives of the type. -/
theorem runOfVerticesDrawsItsPrimitives : Obligations.RunOfVerticesDrawsItsPrimitives := by
  unfold Obligations.RunOfVerticesDrawsItsPrimitives
  intro vs s hempty htype
  have hq : s.vq.length < needed (typeCode s.reg) := by
    rw [hempty, needed_eq_vertsNeeded]
    exact vertsNeeded_pos _
  obtain ⟨t, hrun, hreport, hdraws⟩ := runAll_xyz2 vs s htype hq
  rw [hempty, assemble_eq_primitives htype] at hdraws
  exact ⟨t, hrun, hreport, hdraws⟩

end Sys2Proof.Proofs
end

section
/-! The family Transfer engine, pixel order (44_transfer_engine.md R387): an order code reflects the
row-major order in one axis, in both, or in none. -/

namespace Sys2Proof.Proofs
open Sys2Proof.Machine Sys2Proof.Claims

/-- An offset lies in a rectangle of width `w` and height `h`. -/
def InRect (w h : Nat) (p : Nat × Nat) : Prop := p.1 < w ∧ p.2 < h

/-- An offset reflected as an order code says: bit 1 the column, bit 0 the row. -/
def reflect (w h : Nat) (o : BitVec 2) (p : Nat × Nat) : Nat × Nat :=
  (if o.getLsbD 1 then w - 1 - p.1 else p.1, if o.getLsbD 0 then h - 1 - p.2 else p.2)

theorem pixelXY_eq_reflect (w h k : Nat) (o : BitVec 2) :
    pixelXY w h k o = reflect w h o (k % w, k / w) := by
  have hcode : o = 0#2 ∨ o = 1#2 ∨ o = 2#2 ∨ o = 3#2 := by revert o; decide
  rcases hcode with rfl | rfl | rfl | rfl <;> rfl

theorem InRect.reflect {w h : Nat} {p : Nat × Nat} (hp : InRect w h p) (o : BitVec 2) :
    InRect w h (reflect w h o p) := by
  obtain ⟨hx, hy⟩ := hp
  constructor
  · show (if o.getLsbD 1 then w - 1 - p.1 else p.1) < w
    split <;> omega
  · show (if o.getLsbD 0 then h - 1 - p.2 else p.2) < h
    split <;> omega

/-- Inside the rectangle a reflection undoes itself. -/
theorem reflect_reflect {w h : Nat} {p : Nat × Nat} (hp : InRect w h p) (o : BitVec 2) :
    reflect w h o (reflect w h o p) = p := by
  obtain ⟨hx, hy⟩ := hp
  refine Prod.ext ?_ ?_ <;> dsimp only [Proofs.reflect]
  · split <;> omega
  · split <;> omega

/-- Row-major order: a pixel number is its row and its column. -/
theorem rowMajor_inRect {w h k : Nat} (hk : k < w * h) : InRect w h (k % w, k / w) :=
  ⟨Nat.mod_lt _ (Nat.pos_of_lt_mul_right hk), Nat.div_lt_of_lt_mul hk⟩

theorem rowMajor_number {w h : Nat} {p : Nat × Nat} (hp : InRect w h p) :
    w * p.2 + p.1 < w * h ∧ ((w * p.2 + p.1) % w, (w * p.2 + p.1) / w) = p := by
  obtain ⟨hx, hy⟩ := hp
  refine ⟨?_, Prod.ext ?_ ?_⟩
  · calc w * p.2 + p.1 < w * (p.2 + 1) := by rw [Nat.mul_succ]; omega
      _ ≤ w * h := Nat.mul_le_mul_left w hy
  · rw [Nat.mul_add_mod, Nat.mod_eq_of_lt hx]
  · rw [Nat.mul_add_div (by omega), Nat.div_eq_of_lt hx, Nat.add_zero]

/-- Settles O40: the pixel with an offset is the row-major number of the reflected offset. -/
theorem pixelOrderCoversTheRectangle : Obligations.PixelOrderCoversTheRectangle := by
  unfold Obligations.PixelOrderCoversTheRectangle
  refine fun w h o => ⟨fun k hk => ?inside, fun x hx y hy => ?once⟩
  case inside =>
    rw [pixelXY_eq_reflect]
    exact (rowMajor_inRect hk).reflect o
  case once =>
    have hxy : InRect w h (x, y) := ⟨hx, hy⟩
    obtain ⟨hlt, hnumber⟩ := rowMajor_number (hxy.reflect o)
    refine ⟨_, hlt, ?_, fun k hk hoffset => ?_⟩
    · rw [pixelXY_eq_reflect, hnumber, reflect_reflect hxy]
    · rw [pixelXY_eq_reflect] at hoffset
      rw [← hoffset, reflect_reflect (rowMajor_inRect hk)]
      exact (Nat.div_add_mod k w).symm

end Sys2Proof.Proofs
end

section
/-! The family Transfer engine, activation (44_transfer_engine.md R380 to R390): the depth of a
transfer, and one equation for each way a TRXDIR write ends. -/

namespace Sys2Proof.Proofs
open Sys2Proof.Machine Sys2Proof.Claims

/-! ### Formats and depths (R381, R382) -/

/-- The table of R104, the claim's and the model's. -/
theorem modeBits_eq_bppOf (code : BitVec 6) : modeBits code = (psmOf code).map bppOf := by
  revert code
  decide

/-- A transfer has the depth that its formats give it, or is refused for what R382 names. -/
theorem xferDepth_depthOf (dir : XferDir) (buf : Word64) :
    (∃ d, depthOf dir buf = some d ∧ xferDepth dir buf = .ok d) ∨
    (∃ e, depthOf dir buf = none ∧ xferDepth dir buf = .error e ∧ refusedFor dir buf e) := by
  have hsource : modeBits (spsm buf) = (psmOf (bitbltbufSPSM buf)).map bppOf := modeBits_eq_bppOf _
  have hdest : modeBits (dpsm buf) = (psmOf (bitbltbufDPSM buf)).map bppOf := modeBits_eq_bppOf _
  cases dir
  case hostToLocal =>
    simp only [depthOf, xferDepth, refusedFor, hdest]
    cases psmOf (bitbltbufDPSM buf)
    case some p => exact .inl ⟨_, rfl, rfl⟩
    case none => exact .inr ⟨_, rfl, rfl, rfl, rfl⟩
  case localToHost =>
    simp only [depthOf, xferDepth, refusedFor, hsource]
    cases psmOf (bitbltbufSPSM buf)
    case some p => exact .inl ⟨_, rfl, rfl⟩
    case none => exact .inr ⟨_, rfl, rfl, rfl, rfl⟩
  case localToLocal =>
    simp only [depthOf, xferDepth, refusedFor, hsource, hdest]
    cases psmOf (bitbltbufSPSM buf) <;> cases psmOf (bitbltbufDPSM buf)
    case some.some p q =>
      by_cases hequal : bppOf p = bppOf q
      · exact .inl ⟨bppOf p, by simp [hequal], if_pos hequal⟩
      · exact .inr ⟨_, by simp [hequal], if_neg hequal, .inr (.inr ⟨_, _, rfl, rfl, hequal, rfl⟩)⟩
    case none.some => exact .inr ⟨_, rfl, rfl, .inl ⟨rfl, rfl⟩⟩
    case some.none => exact .inr ⟨_, rfl, rfl, .inr (.inl ⟨rfl, rfl⟩)⟩
    case none.none =>
      refine .inr ⟨_, rfl, rfl, ?_⟩
      split
      · exact .inl ⟨rfl, rfl⟩
      · exact .inr (.inl ⟨rfl, rfl⟩)

theorem xferDepth_of_depthOf {dir : XferDir} {buf : Word64} {d : Nat}
    (h : depthOf dir buf = some d) : xferDepth dir buf = .ok d := by
  rcases xferDepth_depthOf dir buf with ⟨d', hd', hx⟩ | ⟨e, hnone, _⟩
  · rw [hx, Option.some.inj (hd'.symm.trans h)]
  · exact absurd (hnone.symm.trans h) (by simp)

theorem xferDepth_refused {dir : XferDir} {buf : Word64} (h : depthOf dir buf = none) :
    ∃ e, refusedFor dir buf e ∧ xferDepth dir buf = .error e := by
  rcases xferDepth_depthOf dir buf with ⟨d, hd, _⟩ | ⟨e, _, hx, hrefused⟩
  · exact absurd (hd.symm.trans h) (by simp)
  · exact ⟨e, hrefused, hx⟩

/-! ### TRXDIR by its outcome (R383 to R386, R390) -/

/-- XDIR off, kept in TRXDIR with its other bits (R390). -/
theorem xdirOff_eq (v : Word64) : v &&& ~~~0x3#64 ||| 0x3#64 = v ||| 0x3#64 := by
  apply BitVec.eq_of_getLsbD_eq
  intro i hi
  simp only [BitVec.getLsbD_or, BitVec.getLsbD_and, BitVec.getLsbD_not, hi]
  cases v.getLsbD i <;> cases (3#64).getLsbD i <;> rfl

theorem deactivate_eq (s : State) :
    deactivate s = { s with
      xfer := { s.xfer with active := false }
      reg := { s.reg with trxdir := s.reg.trxdir ||| 0x3#64 } } := by
  rw [deactivate, xdirOff_eq]

/-- The engine latched for a new transfer, before the write is known to arm it, to copy or to end at
once. -/
def begun (v : Word64) (dir : XferDir) (d : Nat) (s : State) : State :=
  { s with
    reg := { s.reg with trxdir := v }
    xfer := latched s.reg dir s.xfer.active d 0 }

theorem setDepth_latchXfer (v : Word64) (dir : XferDir) (d : Nat) (s : State) :
    setDepth d (latchXfer dir (storeTrxdir v s)) = begun v dir d s := by
  unfold begun latched
  rw [Nat.zero_mul]
  rfl

theorem begun_total (v : Word64) (dir : XferDir) (d : Nat) (s : State) :
    (begun v dir d s).xfer.total = width s.reg.trxreg * height s.reg.trxreg := rfl

theorem begun_xfer (v : Word64) (dir : XferDir) (d : Nat) (s : State) :
    (begun v dir d s).xfer = latched s.reg dir s.xfer.active d 0 := rfl

/-- A transfer just begun and ended: nothing moved, TRXDIR off. -/
theorem deactivate_begun (v : Word64) (dir : XferDir) (d : Nat) (s : State) :
    deactivate (begun v dir d s) = { s with
      reg := { s.reg with trxdir := v ||| 0x3#64 }
      xfer := latched s.reg dir false d 0 } :=
  deactivate_eq _

section
variable {v : Word64} {s : State} {dir : XferDir}

/-- A direction with an invalid transfer: reported, and ended at once (R382). -/
theorem trxdirWrite_refused (hdir : xferDirOf (trxdirXDIR v) = some dir)
    (h : depthOf dir s.reg.bitbltbuf = none) :
    ∃ e, refusedFor dir s.reg.bitbltbuf e ∧
      trxdirWrite v s = deactivate (begun v dir 0 (reporting [.unmodelled e] s)) := by
  obtain ⟨e, hrefused, hdepth⟩ := xferDepth_refused h
  refine ⟨e, hrefused, ?_⟩
  rcases trxdirWrite_cases v s with ⟨hoff, _⟩ | ⟨dir', hdir', hcase⟩
  · cases hoff.symm.trans hdir
  · obtain rfl := Option.some.inj (hdir'.symm.trans hdir)
    rcases hcase with ⟨e', he', hw⟩ | ⟨d, hd, _⟩
    · obtain rfl := Except.error.inj (he'.symm.trans hdepth)
      rw [hw, ← setDepth_latchXfer, ← raise_eq_reporting]
      rfl
    · cases hd.symm.trans hdepth

/-- A direction with a valid transfer: an empty one ends at once, a local one is performed, a host
one is armed (R383, R386, R389). -/
theorem trxdirWrite_valid {d : Nat} (hdir : xferDirOf (trxdirXDIR v) = some dir)
    (h : depthOf dir s.reg.bitbltbuf = some d) :
    trxdirWrite v s =
      if width s.reg.trxreg * height s.reg.trxreg = 0 then deactivate (begun v dir d s)
      else if dir = .localToLocal then deactivate (localCopy (begun v dir d s))
      else (begun v dir d s).setXfer (latched s.reg dir true d 0) := by
  have hdepth := xferDepth_of_depthOf h
  rcases trxdirWrite_cases v s with ⟨hoff, _⟩ | ⟨dir', hdir', hcase⟩
  · cases hoff.symm.trans hdir
  · obtain rfl := Option.some.inj (hdir'.symm.trans hdir)
    rcases hcase with ⟨e', he', _⟩ | ⟨d', hd', s2, rfl, hcase⟩
    · cases he'.symm.trans hdepth
    · obtain rfl := Except.ok.inj (hd'.symm.trans hdepth)
      rw [setDepth_latchXfer, begun_total] at hcase
      rcases hcase with ⟨htotal, hw⟩ | ⟨htotal, hlocal, hw⟩ | ⟨htotal, hhost, hw⟩
      · rw [hw, if_pos htotal]
      · rw [hw, if_neg htotal, if_pos hlocal]
      · rw [hw, if_neg htotal, if_neg hhost]
        rfl

end

/-- The row TRXDIR is the register's write (R331). -/
theorem exec_trxdir (v : Word64) (s : State) : exec (.trxdir v) s = .next (trxdirWrite v s) := rfl

/-- The codes of the three directions are those of R380. -/
theorem xferDirOf_of_mem_directions {row : BitVec 2 × XferDir} (h : row ∈ directions) :
    xferDirOf row.1 = some row.2 := by
  revert row
  decide

/-- Settles O42: with a direction of the host, the write by its three outcomes. -/
theorem trxdirArmsHostTransfers : Obligations.TrxdirArmsHostTransfers := by
  unfold Obligations.TrxdirArmsHostTransfers
  intro row hrow hhost v s hxdir
  have hdir : xferDirOf (trxdirXDIR v) = some row.2 := by
    rw [← xferDirOf_of_mem_directions hrow, ← hxdir]
    rfl
  refine ⟨fun d hdepth => ⟨fun hsome => ?armed, fun hempty => ?empty⟩, fun hinvalid => ?invalid⟩
  case armed =>
    rw [exec_trxdir, trxdirWrite_valid hdir hdepth, if_neg hsome, if_neg hhost]
    rfl
  case empty =>
    rw [exec_trxdir, trxdirWrite_valid hdir hdepth, if_pos hempty, deactivate_begun]
  case invalid =>
    obtain ⟨e, hrefused, hw⟩ := trxdirWrite_refused hdir hinvalid
    refine ⟨e, hrefused, ?_⟩
    rw [exec_trxdir, hw, deactivate_begun]
    rfl

/-- XDIR 3 names no direction (R380). -/
theorem trxdirWrite_off {v : Word64} (hxdir : trxdirXDIR v = 3#2) (s : State) :
    trxdirWrite v s = cancelXfer (storeTrxdir v s) := by
  rcases trxdirWrite_cases v s with ⟨_, hw⟩ | ⟨dir, hdir, _⟩
  · exact hw
  · rw [hxdir] at hdir
    cases hdir

/-- Settles O44: the write is `Cancel()` after the store, which looks at the active flag alone. -/
theorem trxdirOffCancels : Obligations.TrxdirOffCancels := by
  unfold Obligations.TrxdirOffCancels
  refine fun v s hxdir => ⟨fun hactive => ?active, fun hidle => ?idle⟩
  case active =>
    rw [exec_trxdir, trxdirWrite_off hxdir]
    exact congrArg _ (if_pos hactive)
  case idle =>
    rw [exec_trxdir, trxdirWrite_off hxdir]
    exact congrArg _ (if_neg (Bool.eq_false_iff.mp hidle))

end Sys2Proof.Proofs
end

section
/-! The family Transfer engine, the pixels of a transfer (44_transfer_engine.md R387, R397): every
pixel access of a transfer changes memory and the report alone, as `storeAt` and `pixelAt` say. -/

namespace Sys2Proof.Proofs
open Sys2Proof.Machine Sys2Proof.Claims

/-! ### Reports -/

theorem reporting_reporting (es es' : List Err) (s : State) :
    reporting es' (reporting es s) = reporting (es ++ es') s := by
  simp [reporting, Bool.or_assoc]

/-! ### States that differ by what a transfer moves -/

/-- `s` after a transfer: memory and the errors so far are `m`, the engine is `x`. -/
def moved (m : Memory × List Err) (x : Xfer) (s : State) : State :=
  { reporting m.2 s with vram := m.1, xfer := x }

@[simp] theorem moved_xfer (m : Memory × List Err) (x : Xfer) (s : State) :
    (moved m x s).xfer = x := rfl
@[simp] theorem setXfer_moved (m : Memory × List Err) (x x' : Xfer) (s : State) :
    (moved m x s).setXfer x' = moved m x' s := rfl

/-- Nothing moved yet. -/
theorem moved_self (s : State) : moved (s.vram, []) s.xfer s = s := by
  unfold moved
  rw [reporting_nil]

theorem raise_moved (e : Err) (m : Memory × List Err) (x : Xfer) (s : State) :
    raise e (moved m x s) = moved (m.1, m.2 ++ [e]) x s := by
  calc raise e (moved m x s)
    _ = { reporting [e] (reporting m.2 s) with vram := m.1, xfer := x } := raise_eq_reporting ..
    _ = moved (m.1, m.2 ++ [e]) x s := by rw [reporting_reporting]; rfl

/-! ### One pixel -/

/-- A destination pixel is written or rejected (R387, R397). -/
theorem writeDest_moved (k : Nat) (o : BitVec 2) (p : Word32) (m : Memory × List Err) (x : Xfer)
    (s : State) :
    writeDest (xferXY x k o) p (moved m x s) = moved (storeAt (destAt s.cfg x o k) p m) x s := by
  cases hloc : destAt s.cfg x o k with
  | error e =>
    calc writeDest (xferXY x k o) p (moved m x s)
      _ = reporting [e] (moved m x s) := (pixel_access_rejected (s := moved m x s) hloc p).1
      _ = moved (m.1, m.2 ++ [e]) x s := by rw [← raise_eq_reporting, raise_moved]
  | ok l => exact pixWrite_of_locate (s := moved m x s) hloc p

/-- A source pixel that fails a check is reported and gives 0 (R397). -/
theorem readSource_moved_error {k : Nat} {o : BitVec 2} {m : Memory × List Err} {x : Xfer}
    {s : State} {e : Err} (h : sourceAt s.cfg x o k = .error e) :
    readSource (xferXY x k o) (moved m x s) = ((0#32, false), moved (m.1, m.2 ++ [e]) x s) := by
  rw [← raise_moved, raise_eq_reporting]
  exact (pixel_access_rejected (s := moved m x s) h 0#32).2

theorem readSource_moved_ok {k : Nat} {o : BitVec 2} {m : Memory × List Err} {x : Xfer}
    {s : State} {l : PixelLoc} (h : sourceAt s.cfg x o k = .ok l) :
    readSource (xferXY x k o) (moved m x s) =
      ((getPixel l (readWord m.1 l.word), true), moved m x s) :=
  pixRead_of_locate (s := moved m x s) h

/-! ### Local to local (R389) -/

/-- The engine with `n` more pixels counted. -/
def counted (n : Nat) (x : Xfer) : Xfer :=
  { x with pixels := x.pixels + n, addr := x.addr + n * x.bitDepth }

theorem countPixel_moved (m : Memory × List Err) (x : Xfer) (s : State) :
    countPixel (moved m x s) = moved m (counted 1 x) s := by
  unfold counted
  rw [Nat.one_mul]
  rfl

theorem counted_zero (x : Xfer) : counted 0 x = x := by
  simp [counted]

theorem counted_counted (n : Nat) (x : Xfer) : counted 1 (counted n x) = counted (n + 1) x := by
  simp only [counted, Nat.add_assoc, Nat.add_mul]

theorem copyPixel_moved (k : Nat) (m : Memory × List Err) (x : Xfer) (s : State) :
    copyPixel k (moved m x s) =
      moved (copyAt s.cfg x (trxposDIR x.pos) m k) (counted 1 x) s := by
  unfold copyPixel copyAt
  dsimp only [moved_xfer]
  cases hloc : sourceAt s.cfg x (trxposDIR x.pos) k with
  | error e =>
    rw [readSource_moved_error hloc]
    exact countPixel_moved ..
  | ok l =>
    rw [readSource_moved_ok hloc, if_pos rfl, writeDest_moved, countPixel_moved]

/-- The last pixel of a copy is the last one copied. -/
theorem copyPixels_succ (n k : Nat) (s : State) :
    copyPixels (n + 1) k s = copyPixel (k + n) (copyPixels n k s) := by
  induction n generalizing k s with
  | zero => rfl
  | succ n ih =>
    calc copyPixels (n + 2) k s
      _ = copyPixels (n + 1) (k + 1) (copyPixel k s) := rfl
      _ = copyPixel (k + 1 + n) (copyPixels n (k + 1) (copyPixel k s)) := ih ..
      _ = copyPixel (k + (n + 1)) (copyPixels (n + 1) k s) := by
        rw [Nat.add_right_comm, Nat.add_assoc]; rfl

theorem copied_succ (cfg : Params) (x : Xfer) (o : BitVec 2) (n : Nat) (m : Memory) :
    copied cfg x o (n + 1) m = copyAt cfg x o (copied cfg x o n m) n := by
  simp only [copied, List.range_succ, List.foldl_append, List.foldl_cons, List.foldl_nil]

theorem copyPixels_eq_moved (n : Nat) (s : State) :
    copyPixels n 0 s =
      moved (copied s.cfg s.xfer (trxposDIR s.xfer.pos) n s.vram) (counted n s.xfer) s := by
  induction n with
  | zero =>
    rw [counted_zero]
    exact (moved_self s).symm
  | succ n ih =>
    rw [copyPixels_succ, ih, copyPixel_moved, counted_counted, Nat.zero_add, copied_succ]
    rfl

theorem counted_latched (f : RegFile) (dir : XferDir) (active : Bool) (d n : Nat) :
    counted n (latched f dir active d 0) = latched f dir active d n := by
  simp [counted, latched]

/-- Settles O43: a valid write is the copy of `localCopy`, which for an empty rectangle is the
identity. -/
theorem trxdirCopiesLocally : Obligations.TrxdirCopiesLocally := by
  unfold Obligations.TrxdirCopiesLocally
  intro v s hxdir
  have hdir : xferDirOf (trxdirXDIR v) = some .localToLocal := by
    rw [show trxdirXDIR v = 2#2 from hxdir]
    rfl
  refine ⟨fun d hdepth => ⟨_, rfl, _, rfl, ?valid⟩, fun hinvalid => ?invalid⟩
  case valid =>
    have hw : trxdirWrite v s = deactivate (localCopy (begun v .localToLocal d s)) := by
      rw [trxdirWrite_valid hdir hdepth, if_pos rfl]
      split
      case isTrue hempty => rw [localCopy, begun_total, hempty]; rfl
      case isFalse => rfl
    rw [exec_trxdir, hw, localCopy, copyPixels_eq_moved, begun_total, begun_xfer, counted_latched,
      deactivate_eq]
    rfl
  case invalid =>
    obtain ⟨e, hrefused, hw⟩ := trxdirWrite_refused hdir hinvalid
    refine ⟨e, hrefused, ?_⟩
    rw [exec_trxdir, hw, deactivate_begun]
    rfl

end Sys2Proof.Proofs
end

section
/-! The family Transfer engine, HWREG writes (44_transfer_engine.md R391 to R393): the loop takes as
many pixels as `wholePixels` says, each where `received` stores it. -/

namespace Sys2Proof.Proofs
open Sys2Proof.Machine Sys2Proof.Claims

/-! ### The stream -/

/-- Bits put above a stream are added to it. -/
theorem stream_append_eq_add {b n : Nat} (p : Nat) (h : b < 2 ^ n) :
    b ||| p <<< n = b + p * 2 ^ n := by
  rw [Nat.or_comm, ← Nat.shiftLeft_add_eq_or_of_lt h, Nat.shiftLeft_eq, Nat.add_comm]

/-! ### One pixel (R392) -/

theorem takenXfer_zero (x : Xfer) : takenXfer 0 x = x := by
  simp [takenXfer]

theorem takenXfer_takenXfer (k : Nat) (x : Xfer) :
    takenXfer 1 (takenXfer k x) = takenXfer (k + 1) x := by
  simp only [takenXfer, Nat.one_mul, Nat.add_mul, Nat.shiftRight_add, Nat.sub_sub, Nat.add_assoc]

theorem takePixel_moved (m : Memory × List Err) (x : Xfer) (s : State) :
    takePixel (moved m x s) =
      moved (storeAt (destAt s.cfg x 0#2 x.pixels)
        (BitVec.ofNat 32 (x.streamBits % 2 ^ x.bitDepth)) m) (takenXfer 1 x) s := by
  unfold takePixel
  dsimp only [moved_xfer]
  rw [setXfer_moved]
  refine (congrArg countPixel (writeDest_moved x.pixels 0#2 _ m
    { x with streamBits := x.streamBits >>> x.bitDepth, streamN := x.streamN - x.bitDepth }
    s)).trans ((countPixel_moved ..).trans ?_)
  simp only [counted, takenXfer, Nat.one_mul]
  rfl

/-! ### The loop (R392) -/

theorem received_succ (cfg : Params) (x : Xfer) (b n : Nat) (m : Memory) :
    received cfg x b (n + 1) m =
      storeAt (destAt cfg x 0#2 (x.pixels + n))
        (BitVec.ofNat 32 (b / 2 ^ (n * x.bitDepth) % 2 ^ x.bitDepth)) (received cfg x b n m) := by
  simp only [received, List.range_succ, List.foldl_append, List.foldl_cons, List.foldl_nil]

theorem takePixel_iterate (k : Nat) (s : State) :
    takePixel^[k] s =
      moved (received s.cfg s.xfer s.xfer.streamBits k s.vram) (takenXfer k s.xfer) s := by
  induction k with
  | zero =>
    rw [takenXfer_zero]
    exact (moved_self s).symm
  | succ k ih =>
    rw [Function.iterate_succ_apply', ih, takePixel_moved, takenXfer_takenXfer, received_succ,
      ← Nat.shiftRight_eq_div_pow]
    rfl

/-- A pixel taken is one whole pixel fewer. -/
theorem wholePixels_takePixel {s : State} (hd : 0 < s.xfer.bitDepth)
    (hstream : s.xfer.bitDepth ≤ s.xfer.streamN) (hleft : s.xfer.pixels < s.xfer.total) :
    wholePixels s.xfer s.xfer.streamN =
      wholePixels (takePixel s).xfer (takePixel s).xfer.streamN + 1 := by
  rw [takePixel_xfer]
  unfold wholePixels
  rw [Nat.div_eq_sub_div hd hstream]
  dsimp only
  omega

theorem takePixels_eq_iterate (n : Nat) {s : State} (hd : 0 < s.xfer.bitDepth) :
    takePixels n s = takePixel^[min n (wholePixels s.xfer s.xfer.streamN)] s := by
  induction n generalizing s with
  | zero => rw [Nat.zero_min]; rfl
  | succ n ih =>
    unfold takePixels
    split
    case isTrue hmore =>
      rw [ih (by rw [takePixel_xfer]; exact hd), wholePixels_takePixel hd hmore.1 hmore.2,
        Nat.add_min_add_right, Function.iterate_succ_apply]
    case isFalse hdone =>
      have hnone : wholePixels s.xfer s.xfer.streamN = 0 := by
        unfold wholePixels
        by_cases hstream : s.xfer.streamN < s.xfer.bitDepth
        · rw [Nat.div_eq_of_lt hstream, Nat.zero_min]
        · have hend : s.xfer.total ≤ s.xfer.pixels :=
            Nat.le_of_not_lt fun hleft => hdone ⟨Nat.le_of_not_lt hstream, hleft⟩
          rw [Nat.sub_eq_zero_of_le hend, Nat.min_zero]
      rw [hnone, Nat.min_zero]
      rfl

/-- The loop of an HWREG write: the whole pixels of the stream with the new word. -/
theorem takePixels_pushWord (v : Word64) {s : State} (hd : 0 < s.xfer.bitDepth)
    (hstream : s.xfer.streamBits < 2 ^ s.xfer.streamN) :
    takePixels (s.xfer.total - s.xfer.pixels) (pushWord v s) =
      moved
        (received s.cfg s.xfer (s.xfer.streamBits + v.toNat * 2 ^ s.xfer.streamN)
          (wholePixels s.xfer (s.xfer.streamN + 64)) s.vram)
        (takenXfer (wholePixels s.xfer (s.xfer.streamN + 64)) { s.xfer with
          streamBits := s.xfer.streamBits + v.toNat * 2 ^ s.xfer.streamN
          streamN := s.xfer.streamN + 64 }) s := by
  have hbound : wholePixels (pushWord v s).xfer (pushWord v s).xfer.streamN ≤
      s.xfer.total - s.xfer.pixels := Nat.min_le_right _ _
  rw [takePixels_eq_iterate _ (s := pushWord v s) hd, Nat.min_eq_right hbound, takePixel_iterate,
    pushWord_xfer, stream_append_eq_add _ hstream]
  rfl

/-- The row HWREG is the port's write (R332). -/
theorem exec_hwreg (v : Word64) (s : State) : exec (.hwreg v) s = .next (hwregWrite v s) := rfl

/-- Settles O45: after the loop the write ends, the transfer with it when no pixel is left. -/
theorem hwregWriteTakesPixels : Obligations.HwregWriteTakesPixels := by
  unfold Obligations.HwregWriteTakesPixels
  intro v s hactive hdir hd hstream _
  refine ⟨_, rfl, _, rfl, _, rfl, ?_⟩
  rw [exec_hwreg]
  rcases hwregWrite_cases v s with ⟨hno, _⟩ | ⟨_, _, s2, rfl, ⟨hlast, hw⟩ | ⟨hmore, hw⟩⟩
  case inl => exact absurd ⟨hactive, hdir⟩ hno
  case inr.inl =>
    rw [takePixels_pushWord v hd hstream] at hlast hw
    replace hlast : s.xfer.pixels + wholePixels s.xfer (s.xfer.streamN + 64) = s.xfer.total := hlast
    rw [hw, deactivate_eq]
    simp only [if_pos hlast, beq_iff_eq.mpr hlast, Bool.not_true]
    rfl
  case inr.inr =>
    rw [takePixels_pushWord v hd hstream] at hmore hw
    replace hmore : s.xfer.pixels + wholePixels s.xfer (s.xfer.streamN + 64) ≠ s.xfer.total := hmore
    have hstill : (!(s.xfer.pixels + wholePixels s.xfer (s.xfer.streamN + 64) == s.xfer.total)) =
        s.xfer.active := by
      rw [hactive, beq_eq_false_iff_ne.mpr hmore, Bool.not_false]
    rw [hw]
    simp only [if_neg hmore, hstill, ← Nat.shiftRight_eq_div_pow]
    rfl

end Sys2Proof.Proofs
end

section
/-! The family Transfer engine, HWREG reads (44_transfer_engine.md R391, R394, R395): the loop gives
the stream as many pixels as `fetchedPixels` says, and leaves memory. -/

namespace Sys2Proof.Proofs
open Sys2Proof.Machine Sys2Proof.Claims

/-! ### One pixel (R394) -/

/-- The errors of one access. -/
def errorsAt (l : Except Err PixelLoc) : List Err :=
  match l with
  | .ok _ => []
  | .error e => [e]

/-- Whether it passes its checks or not, a source pixel gives `pixelAt` and its errors. -/
theorem readSource_moved (k : Nat) (o : BitVec 2) (m : Memory × List Err) (x : Xfer) (s : State) :
    ∃ ok, readSource (xferXY x k o) (moved m x s) =
      ((pixelAt m.1 (sourceAt s.cfg x o k), ok),
        moved (m.1, m.2 ++ errorsAt (sourceAt s.cfg x o k)) x s) := by
  cases hloc : sourceAt s.cfg x o k with
  | error e => exact ⟨false, readSource_moved_error hloc⟩
  | ok l =>
    refine ⟨true, (readSource_moved_ok hloc).trans ?_⟩
    rw [errorsAt, List.append_nil]
    rfl

/-- The engine with one more pixel `p` above the bits of its stream. -/
def givenXfer (p : Word32) (x : Xfer) : Xfer :=
  counted 1 { x with
    streamBits := x.streamBits ||| ((p.toNat % 2 ^ x.bitDepth) <<< x.streamN)
    streamN := x.streamN + x.bitDepth }

theorem givePixel_moved (m : Memory × List Err) (x : Xfer) (s : State) :
    givePixel (moved m x s) =
      moved (m.1, m.2 ++ errorsAt (sourceAt s.cfg x 0#2 x.pixels))
        (givenXfer (pixelAt m.1 (sourceAt s.cfg x 0#2 x.pixels)) x) s := by
  obtain ⟨ok, hread⟩ := readSource_moved x.pixels 0#2 m x s
  unfold givePixel
  dsimp only [moved_xfer]
  rw [hread]
  dsimp only [moved_xfer]
  rw [setXfer_moved, countPixel_moved]
  rfl

/-! ### The stream (R391) -/

theorem readErrors_succ (cfg : Params) (x : Xfer) (n : Nat) :
    readErrors cfg x (n + 1) =
      readErrors cfg x n ++ errorsAt (sourceAt cfg x 0#2 (x.pixels + n)) := by
  simp only [readErrors, List.range_succ, List.filterMap_append]
  cases hloc : sourceAt cfg x 0#2 (x.pixels + n) <;> simp [hloc, errorsAt]

theorem sentStream_succ (cfg : Params) (x : Xfer) (n : Nat) (m : Memory) :
    sentStream cfg x (n + 1) m = sentStream cfg x n m +
      ((pixelAt m (sourceAt cfg x 0#2 (x.pixels + n))).toNat % 2 ^ x.bitDepth) *
        2 ^ (x.streamN + n * x.bitDepth) := by
  simp only [sentStream, List.range_succ, List.foldl_append, List.foldl_cons, List.foldl_nil]

/-- The bits of the pixels sent lie below the stream's length. -/
theorem sentStream_lt {cfg : Params} {x : Xfer} (n : Nat) (m : Memory)
    (h : x.streamBits < 2 ^ x.streamN) :
    sentStream cfg x n m < 2 ^ (x.streamN + n * x.bitDepth) := by
  induction n with
  | zero => simpa [sentStream] using h
  | succ n ih =>
    rw [sentStream_succ, ← stream_append_eq_add _ ih, Nat.succ_mul, ← Nat.add_assoc]
    exact stream_append_lt ih (Nat.mod_lt _ (Nat.two_pow_pos _))

/-- The engine with the next `k` pixels of its rectangle in its stream. -/
def sentXfer (cfg : Params) (m : Memory) (k : Nat) (x : Xfer) : Xfer :=
  counted k { x with
    streamBits := sentStream cfg x k m
    streamN := x.streamN + k * x.bitDepth }

theorem sentXfer_zero (cfg : Params) (m : Memory) (x : Xfer) : sentXfer cfg m 0 x = x := by
  simp [sentXfer, counted, sentStream]

theorem givenXfer_sentXfer {cfg : Params} {x : Xfer} (m : Memory) (k : Nat)
    (h : x.streamBits < 2 ^ x.streamN) :
    givenXfer (pixelAt m (sourceAt cfg x 0#2 (x.pixels + k))) (sentXfer cfg m k x) =
      sentXfer cfg m (k + 1) x := by
  unfold givenXfer sentXfer
  rw [sentStream_succ, ← stream_append_eq_add _ (sentStream_lt k m h), ← counted_counted k,
    Nat.succ_mul, ← Nat.add_assoc]
  rfl

theorem givePixel_iterate (k : Nat) {s : State} (h : s.xfer.streamBits < 2 ^ s.xfer.streamN) :
    givePixel^[k] s =
      moved (s.vram, readErrors s.cfg s.xfer k) (sentXfer s.cfg s.vram k s.xfer) s := by
  induction k with
  | zero =>
    rw [sentXfer_zero]
    exact (moved_self s).symm
  | succ k ih =>
    rw [Function.iterate_succ_apply', ih, givePixel_moved, ← givenXfer_sentXfer s.vram k h,
      readErrors_succ]
    rfl

/-! ### The loop (R394) -/

/-- The pixels that fill a gap of `a` bits are one more than those that fill what the first
leaves. -/
theorem pixelsToFill_succ {a d : Nat} (ha : 0 < a) (hd : 0 < d) :
    (a + d - 1) / d = (a - d + d - 1) / d + 1 := by
  rcases Nat.le_total d a with hle | hle
  · rw [Nat.sub_add_cancel hle, Nat.div_eq_sub_div hd (by omega)]
    congr 2
    omega
  · rw [Nat.sub_eq_zero_of_le hle, Nat.div_eq_sub_div hd (by omega), Nat.div_eq_of_lt (by omega),
      Nat.div_eq_of_lt (by omega)]

/-- A pixel given is one fewer to fetch. -/
theorem fetchedPixels_givePixel {s : State} (hd : 0 < s.xfer.bitDepth)
    (hshort : s.xfer.streamN < 64) (hleft : s.xfer.pixels < s.xfer.total) :
    fetchedPixels s.xfer = fetchedPixels (givePixel s).xfer + 1 := by
  obtain ⟨p, _, hx⟩ := givePixel_xfer s
  rw [hx]
  unfold fetchedPixels
  rw [pixelsToFill_succ (Nat.sub_pos_of_lt hshort) hd]
  dsimp only
  rw [Nat.sub_sub, ← Nat.add_min_add_right]
  congr 1
  omega

theorem givePixels_eq_iterate (n : Nat) {s : State} (hd : 0 < s.xfer.bitDepth) :
    givePixels n s = givePixel^[min n (fetchedPixels s.xfer)] s := by
  induction n generalizing s with
  | zero => rw [Nat.zero_min]; rfl
  | succ n ih =>
    unfold givePixels
    split
    case isTrue hmore =>
      have hdepth : (givePixel s).xfer.bitDepth = s.xfer.bitDepth := by
        obtain ⟨p, _, hx⟩ := givePixel_xfer s
        rw [hx]
      rw [ih (by rw [hdepth]; exact hd), fetchedPixels_givePixel hd hmore.1 hmore.2,
        Nat.add_min_add_right, Function.iterate_succ_apply]
    case isFalse hdone =>
      have hnone : fetchedPixels s.xfer = 0 := by
        unfold fetchedPixels
        by_cases hfull : 64 ≤ s.xfer.streamN
        · rw [Nat.sub_eq_zero_of_le hfull, Nat.div_eq_of_lt (by omega), Nat.zero_min]
        · have hend : s.xfer.total ≤ s.xfer.pixels :=
            Nat.le_of_not_lt fun hleft => hdone ⟨Nat.lt_of_not_le hfull, hleft⟩
          rw [Nat.sub_eq_zero_of_le hend, Nat.min_zero]
      rw [hnone, Nat.min_zero]
      rfl

/-- The loop of an HWREG read, whose bound cuts nothing off. -/
theorem givePixels_eq_moved {s : State} (hd : 0 < s.xfer.bitDepth)
    (h : s.xfer.streamBits < 2 ^ s.xfer.streamN) :
    givePixels (s.xfer.total - s.xfer.pixels) s =
      moved (s.vram, readErrors s.cfg s.xfer (fetchedPixels s.xfer))
        (sentXfer s.cfg s.vram (fetchedPixels s.xfer) s.xfer) s := by
  have hbound : fetchedPixels s.xfer ≤ s.xfer.total - s.xfer.pixels := Nat.min_le_right _ _
  rw [givePixels_eq_iterate _ hd, Nat.min_eq_right hbound, givePixel_iterate _ h]

/-! ### The port -/

/-- The state that a read leaves, after the pixels it fetched (R394, R395). -/
def wordTaken (s : State) : State :=
  if s.xfer.pixels = s.xfer.total ∧ s.xfer.streamN - 64 = 0 then deactivate (shiftOut s)
  else shiftOut s

theorem hwregRead_active {s : State} (h : s.xfer.active = true ∧ s.xfer.dir = .localToHost) :
    hwregRead s =
      (BitVec.ofNat 64 (givePixels (s.xfer.total - s.xfer.pixels) s).xfer.streamBits,
        wordTaken (givePixels (s.xfer.total - s.xfer.pixels) s)) := if_pos h

/-- The call `read_HWREG` is the port's read, its word the result. -/
theorem exec_hostReadHwreg (s : State) :
    exec .hostReadHwreg s = .next (setResult (.word64 (hwregRead s).1) (hwregRead s).2) := rfl

theorem beq_and_decide (a b : Nat) (p : Prop) [Decidable p] :
    (a == b && decide p) = decide (a = b ∧ p) := by
  rw [Bool.decide_and, beq_eq_decide]

/-- Settles O46: after the loop the read takes a word off the stream, and the transfer ends when
nothing is left. -/
theorem hwregReadGivesPixels : Obligations.HwregReadGivesPixels := by
  unfold Obligations.HwregReadGivesPixels
  intro s hactive hdir hd hstream _
  refine ⟨_, rfl, _, rfl, _, rfl, _, rfl, ?_⟩
  rw [exec_hostReadHwreg, hwregRead_active ⟨hactive, hdir⟩, givePixels_eq_moved hd hstream]
  unfold wordTaken
  split
  case isTrue hend =>
    replace hend : s.xfer.pixels + fetchedPixels s.xfer = s.xfer.total ∧
        s.xfer.streamN + fetchedPixels s.xfer * s.xfer.bitDepth ≤ 64 :=
      ⟨hend.1, Nat.sub_eq_zero_iff_le.mp hend.2⟩
    rw [deactivate_eq]
    simp only [beq_and_decide, if_pos hend, decide_eq_true hend, Bool.not_true,
      ← Nat.shiftRight_eq_div_pow]
    rfl
  case isFalse hmore =>
    replace hmore : ¬ (s.xfer.pixels + fetchedPixels s.xfer = s.xfer.total ∧
        s.xfer.streamN + fetchedPixels s.xfer * s.xfer.bitDepth ≤ 64) :=
      fun h => hmore ⟨h.1, Nat.sub_eq_zero_iff_le.mpr h.2⟩
    simp only [beq_and_decide, if_neg hmore, decide_eq_false hmore, Bool.not_false, ← hactive,
      ← Nat.shiftRight_eq_div_pow]
    rfl

end Sys2Proof.Proofs
end

section
/-! The family Transfer engine, what the HWREG port does not do (44_transfer_engine.md R385, R396):
an access without its transfer is its record alone, and no access reads the registers that a TRXDIR
write latched. -/

namespace Sys2Proof.Proofs
open Sys2Proof.Machine Sys2Proof.Claims

theorem hwregRead_inactive {s : State} (h : ¬ (s.xfer.active = true ∧ s.xfer.dir = .localToHost)) :
    hwregRead s = (0#64, raise (.hwregInactive .read) s) := if_neg h

theorem hwregWrite_inactive {v : Word64} {s : State}
    (h : ¬ (s.xfer.active = true ∧ s.xfer.dir = .hostToLocal)) :
    hwregWrite v s = raise (.hwregInactive .write) s := if_neg h

/-- Settles O47: the case of each port without its transfer. -/
theorem hwregWithoutTransferIsReported : Obligations.HwregWithoutTransferIsReported := by
  unfold Obligations.HwregWithoutTransferIsReported
  refine fun v s => ⟨fun hno => ?write, fun hno => ⟨_, rfl, ?read⟩⟩
  case write => rw [exec_hwreg, hwregWrite_inactive hno, raise_eq_reporting]
  case read =>
    rw [exec_hostReadHwreg, hwregRead_inactive hno, raise_eq_reporting]
    rfl

/-! ### The loops commute with any change of the register file -/

theorem readSource_setReg (off : Nat × Nat) (s : State) (r : RegFile) :
    readSource off (s.setReg r) = ((readSource off s).1, (readSource off s).2.setReg r) := by
  unfold readSource pixRead
  dsimp only [State.setReg_xfer, State.setReg_cfg]
  split <;> rfl

theorem writeDest_setReg (off : Nat × Nat) (p : Word32) (s : State) (r : RegFile) :
    writeDest off p (s.setReg r) = (writeDest off p s).setReg r := by
  unfold writeDest pixWrite
  dsimp only [State.setReg_xfer, State.setReg_cfg]
  split <;> rfl

theorem takePixel_setReg (s : State) (r : RegFile) :
    takePixel (s.setReg r) = (takePixel s).setReg r :=
  congrArg countPixel (writeDest_setReg _ _ (s.setXfer _) r)

theorem takePixels_setReg (n : Nat) (s : State) (r : RegFile) :
    takePixels n (s.setReg r) = (takePixels n s).setReg r := by
  induction n generalizing s with
  | zero => rfl
  | succ n ih =>
    unfold takePixels
    rw [State.setReg_xfer, takePixel_setReg, ih]
    split <;> rfl

theorem givePixel_setReg (s : State) (r : RegFile) :
    givePixel (s.setReg r) = (givePixel s).setReg r := by
  unfold givePixel
  dsimp only
  rw [State.setReg_xfer, readSource_setReg]
  rfl

theorem givePixels_setReg (n : Nat) (s : State) (r : RegFile) :
    givePixels n (s.setReg r) = (givePixels n s).setReg r := by
  induction n generalizing s with
  | zero => rfl
  | succ n ih =>
    unfold givePixels
    rw [State.setReg_xfer, givePixel_setReg, ih]
    split <;> rfl

/-! ### Other values in the latched registers (R385) -/

/-- `s` with other values in BITBLTBUF, TRXPOS and TRXREG. -/
def relatched (buf pos reg : Word64) (s : State) : State :=
  s.setReg { s.reg with bitbltbuf := buf, trxpos := pos, trxreg := reg }

section
variable (buf pos reg : Word64)

theorem takePixels_relatched (n : Nat) (s : State) :
    takePixels n (relatched buf pos reg s) = relatched buf pos reg (takePixels n s) := by
  unfold relatched
  rw [takePixels_setReg, (Moves.takePixels n s).reg]

theorem givePixels_relatched (n : Nat) (s : State) :
    givePixels n (relatched buf pos reg s) = relatched buf pos reg (givePixels n s) := by
  unfold relatched
  rw [givePixels_setReg, (Moves.givePixels n s).reg]

theorem pushWord_relatched (v : Word64) (s : State) :
    pushWord v (relatched buf pos reg s) = relatched buf pos reg (pushWord v s) := rfl

theorem relatched_xfer (s : State) : (relatched buf pos reg s).xfer = s.xfer := rfl

theorem hwregWrite_relatched (v : Word64) (s : State) :
    hwregWrite v (relatched buf pos reg s) = relatched buf pos reg (hwregWrite v s) := by
  unfold hwregWrite
  dsimp only
  simp only [pushWord_relatched, relatched_xfer, takePixels_relatched]
  split
  · split <;> rfl
  · rfl

theorem wordTaken_relatched (s : State) :
    wordTaken (relatched buf pos reg s) = relatched buf pos reg (wordTaken s) := by
  unfold wordTaken
  rw [relatched_xfer]
  split <;> rfl

theorem hwregRead_relatched (s : State) :
    hwregRead (relatched buf pos reg s) =
      ((hwregRead s).1, relatched buf pos reg (hwregRead s).2) := by
  by_cases hactive : s.xfer.active = true ∧ s.xfer.dir = .localToHost
  case pos =>
    rw [hwregRead_active hactive, hwregRead_active (s := relatched buf pos reg s) hactive,
      relatched_xfer, givePixels_relatched, relatched_xfer, wordTaken_relatched]
  case neg =>
    rw [hwregRead_inactive hactive, hwregRead_inactive (s := relatched buf pos reg s) hactive]
    rfl

end

/-- Settles O49: each port commutes with the change of the three registers. -/
theorem latchedRegistersAreIndependent : Obligations.LatchedRegistersAreIndependent := by
  unfold Obligations.LatchedRegistersAreIndependent
  intro buf pos reg v s
  refine ⟨⟨_, exec_hwreg v s, ?write⟩, ⟨_, exec_hostReadHwreg s, ?read⟩⟩
  case write => exact congrArg _ (hwregWrite_relatched buf pos reg v s)
  case read =>
    have hr := hwregRead_relatched buf pos reg s
    exact (exec_hostReadHwreg (relatched buf pos reg s)).trans (by rw [hr]; rfl)

end Sys2Proof.Proofs
end

section
/-! The family Privileged registers, storage (45_privileged_registers.md R430 to R454): a masked
store, the acknowledge and the composed value of CSR, and the unmapped addresses. -/

namespace Sys2Proof.Proofs
open Sys2Proof.Machine Sys2Proof.Claims

/-! ### The mask of an access (R432, R433) -/

theorem getLsbD_maskMerge (old w m : Word64) {i : Nat} (hi : i < 64) :
    (maskMerge old w m).getLsbD i = if m.getLsbD i then w.getLsbD i else old.getLsbD i :=
  getLsbD_mask_merge old w m hi

theorem maskMerge_all (old v : Word64) : maskMerge old v 0xFFFFFFFFFFFFFFFF#64 = v := by
  show (old &&& ~~~BitVec.allOnes 64) ||| (v &&& BitVec.allOnes 64) = v
  rw [BitVec.and_allOnes, BitVec.not_allOnes, BitVec.and_zero, BitVec.zero_or]

theorem getLsbD_lowMask :
    ∀ i < 64, (0x00000000FFFFFFFF#64).getLsbD i = decide (i < 32) := by decide

theorem getLsbD_highMask :
    ∀ i < 64, (0xFFFFFFFF00000000#64).getLsbD i = decide (32 ≤ i) := by decide

/-- A write of the low half keeps the high half. -/
theorem maskMerge_low (old : Word64) (v : Word32) :
    maskMerge old (v.setWidth 64) 0x00000000FFFFFFFF#64 = old.extractLsb' 32 32 ++ v := by
  refine BitVec.eq_of_getLsbD_eq fun i hi => ?_
  rw [getLsbD_maskMerge _ _ _ hi, getLsbD_lowMask i hi, BitVec.getLsbD_append]
  by_cases hlow : i < 32
  · simp [hlow, hi]
  · simp [hlow, show i - 32 < 32 by omega, show 32 + (i - 32) = i by omega]

/-- A write of the high half keeps the low half. -/
theorem maskMerge_high (old : Word64) (v : Word32) :
    maskMerge old (v.setWidth 64 <<< 32) 0xFFFFFFFF00000000#64 = v ++ old.extractLsb' 0 32 := by
  refine BitVec.eq_of_getLsbD_eq fun i hi => ?_
  rw [getLsbD_maskMerge _ _ _ hi, getLsbD_highMask i hi, BitVec.getLsbD_append]
  by_cases hlow : i < 32
  · simp [hlow]
  · simp [hlow, hi, show 32 ≤ i by omega]

/-! ### Registers with storage (R433, R434) -/

/-- The registers with storage are all but CSR. -/
theorem ne_csr_of_privStored {r : PrivReg} {p : PrivRegs} {old : Word64}
    (h : privStored r p = some old) : r ≠ .csr := by
  rintro rfl
  cases h

theorem privRead_of_privStored {r : PrivReg} {p : PrivRegs} {old : Word64} (cfg : Params)
    (h : privStored r p = some old) : privRead cfg p r = old := by
  cases r
  case csr => cases h
  all_goals exact Option.some.inj h

/-- A masked store merges into its own register and leaves every other one. -/
theorem privStored_privStore (r r' : PrivReg) (w m : Word64) (p : PrivRegs) :
    privStored r' (privStore r w m p) =
      if r' = r then (privStored r p).map (maskMerge · w m) else privStored r' p := by
  cases r <;> cases r' <;> rfl

theorem onlyStored_privStore (r : PrivReg) (w m : Word64) (p : PrivRegs) :
    onlyStored r p (privStore r w m p) := by
  refine ⟨?flags, fun r' hne => ?other⟩
  case flags => cases r <;> rfl
  case other => rw [privStored_privStore, if_neg hne]

/-- A write access of a register with storage is the store of the merged value, and nothing
else. -/
theorem exec_priv_stores {r : PrivReg} {acc : PrivAccess} {s : State} {old w m new : Word64}
    (hacc : privAccess r acc s = privWrite r w m s) (hold : privStored r s.priv = some old)
    (hnew : maskMerge old w m = new) :
    ∃ p, exec (r.instr acc) s = .next { s with priv := p } ∧
      privStored r p = some new ∧ onlyStored r s.priv p := by
  refine ⟨privStore r w m s.priv, ?store, ?value, onlyStored_privStore ..⟩
  case store =>
    obtain ⟨_, hw⟩ | ⟨hcsr, _⟩ := privWrite_cases r w m s
    · rw [exec_privInstr, hacc, hw]; rfl
    · exact absurd hcsr (ne_csr_of_privStored hold)
  case value => rw [privStored_privStore, if_pos rfl, hold, ← hnew]; rfl

theorem partOf_eq_half (part : Part) (v : Word64) : partOf part v = half part v := by
  cases part <;> rfl

/-- Settles O51: each access of a register with storage is a store under its mask, or a read of a
half. -/
theorem privilegedRegistersStore : Obligations.PrivilegedRegistersStore := by
  unfold Obligations.PrivilegedRegistersStore
  intro r old s hold
  refine ⟨fun v => ?all, fun v => ?low, fun v => ?high, fun part => ?read⟩
  case all => exact exec_priv_stores rfl hold (maskMerge_all old v)
  case low => exact exec_priv_stores rfl hold (maskMerge_low old v)
  case high => exact exec_priv_stores rfl hold (maskMerge_high old v)
  case read =>
    rw [exec_privInstr, privAccess, privRead_of_privStored s.cfg hold, partOf_eq_half]
    rfl

/-! ### CSR (R450, R451) -/

theorem csrAck_zero (p : PrivRegs) : csrAck 0#32 p = p := by
  simp [csrAck]

/-- What a CSR write does, by its bit 9; the flags it acknowledges are lost in the reset. -/
theorem csrWrite_eq (w : Word32) (s : State) :
    csrWrite w s = if w.getLsbD 9 then resetState s else { s with priv := csrAck w s.priv } := rfl

/-- A `write64` to CSR is the write of its low half. -/
theorem privAccess_csr_write64 (v : Word64) (s : State) :
    privAccess .csr (.write64 v) s = csrWrite (v.extractLsb' 0 32) s := by
  have hall : v &&& 0xFFFFFFFFFFFFFFFF#64 = v := BitVec.and_allOnes
  show csrWrite ((v &&& 0xFFFFFFFFFFFFFFFF#64).setWidth 32) s = _
  rw [hall, BitVec.setWidth_eq_extractLsb' (by decide)]

theorem privAccess_csr_low (w : Word32) (s : State) :
    privAccess .csr (.write32 .low w) s = csrWrite w s := by
  have hlow : (w.setWidth 64 &&& 0x00000000FFFFFFFF#64).setWidth 32 = w := by
    rw [BitVec.setWidth_and, Laws.half_of_word]
    exact BitVec.and_allOnes
  show csrWrite ((w.setWidth 64 &&& 0x00000000FFFFFFFF#64).setWidth 32) s = _
  rw [hlow]

/-- The mask of the high half covers no bit of CSR that a write reads. -/
theorem privAccess_csr_high (u : Word32) (s : State) :
    privAccess .csr (.write32 .high u) s = s := by
  have hmask : (0xFFFFFFFF00000000#64).setWidth 32 = 0#32 := rfl
  show csrWrite ((u.setWidth 64 <<< 32 &&& 0xFFFFFFFF00000000#64).setWidth 32) s = s
  rw [BitVec.setWidth_and, hmask, BitVec.and_zero, csrWrite_eq, csrAck_zero]
  rfl

/-- Settles O52: `write64` and the low `write32` are one CSR write, by its bit 9, and the high
`write32` is the write of 0. -/
theorem csrWriteAcknowledges : Obligations.CsrWriteAcknowledges := by
  unfold Obligations.CsrWriteAcknowledges
  rintro v w s rfl
  have write64 : exec (.privCsr (.write64 v)) s = .next (csrWrite (v.extractLsb' 0 32) s) :=
    (exec_privInstr .csr _ s).trans (congrArg _ (privAccess_csr_write64 v s))
  have low (w : Word32) : exec (.privCsr (.write32 .low w)) s = .next (csrWrite w s) :=
    (exec_privInstr .csr _ s).trans (congrArg _ (privAccess_csr_low w s))
  rw [write64, low, csrWrite_eq]
  refine ⟨fun hkeep => ⟨_, rfl, ?ack, ?ack⟩, fun hreset => ⟨?reset, ?reset⟩, fun u => ?high⟩
  case ack => rw [if_neg (by rw [hkeep]; decide)]; rfl
  case reset => rw [if_pos hreset]
  case high => exact (exec_privInstr .csr _ s).trans (congrArg _ (privAccess_csr_high u s))

/-- The fields that the model shifts into place are the concatenation of R451: each is shifted by
the widths of the fields below it. -/
theorem csrRead_eq_csrWord (cfg : Params) (p : PrivRegs) :
    csrRead cfg p = (csrWord cfg p).setWidth 64 := by
  simp only [csrWord, ← or_shiftLeft_eq_setWidth_append, BitVec.shiftLeft_or_distrib,
    ← BitVec.shiftLeft_add, csrRead, flagAt, flagBit, BitVec.or_assoc]
  simp

theorem partOf_low_setWidth (w : Word32) : partOf .low (w.setWidth 64) = w := by
  rw [partOf, ← BitVec.setWidth_eq_extractLsb' (by decide), Laws.half_of_word]

theorem partOf_high_setWidth (w : Word32) : partOf .high (w.setWidth 64) = 0#32 := by
  refine BitVec.eq_of_getLsbD_eq fun i _ => ?_
  simp [partOf]

/-- Settles O53: the composed word is the low half, and nothing is placed above it. -/
theorem csrReadIsComposed : Obligations.CsrReadIsComposed := by
  unfold Obligations.CsrReadIsComposed
  intro s
  have read (part : Part) : exec (.privCsr (.read32 part)) s =
      .next (setResult (.word32 (partOf part ((csrWord s.cfg s.priv).setWidth 64))) s) := by
    rw [← csrRead_eq_csrWord]
    exact exec_privInstr .csr _ s
  rw [read, read, partOf_low_setWidth, partOf_high_setWidth]
  exact ⟨rfl, rfl⟩

/-! ### Unmapped addresses (R431) -/

/-- Settles O54: the record of the operation, and for `read32` the result of no value. -/
theorem unmappedAccessIsReported : Obligations.UnmappedAccessIsReported := by
  unfold Obligations.UnmappedAccessIsReported
  simp only [← raise_eq_reporting]
  exact fun addr s => ⟨rfl, rfl, _, rfl, rfl⟩

end Sys2Proof.Proofs
end

section
/-! The family Privileged registers, presentation (45_privileged_registers.md R455 to R457): the
blanking events, the resolutions, and the pixels of the displayed buffer. -/

namespace Sys2Proof.Proofs
open Sys2Proof.Machine Sys2Proof.Claims

/-- Settles O56, by the two events. -/
theorem videoEventsSetTheirFlags : Obligations.VideoEventsSetTheirFlags := by
  unfold Obligations.VideoEventsSetTheirFlags
  exact fun s => ⟨exec_call (.videoEvent .hblank) s, exec_call (.videoEvent .vblankStart) s⟩

/-! ### The displayed circuit (R456) -/

theorem displaySize_eq (p : PrivRegs) : displaySize p = (displayW p, displayH p) := rfl

theorem internalSize_eq (p : PrivRegs) : internalSize p = (internalW p, internalH p) := rfl

/-- Settles O58: the model's sizes are those of the displayed circuit's fields. -/
theorem resolutionsAreOfTheDisplayedCircuit : Obligations.ResolutionsAreOfTheDisplayedCircuit := by
  unfold Obligations.ResolutionsAreOfTheDisplayedCircuit
  intro s
  have display := exec_call .getDisplayResolution s
  have internal := exec_call .getInternalResolution s
  rw [callEffect, displaySize_eq] at display
  rw [callEffect, internalSize_eq] at internal
  exact ⟨display, internal⟩

/-! ### The displayed buffer (R457) -/

/-- The 5-bit PSM of DISPFB as a 6-bit code (log entry 8). -/
theorem psm_setWidth_eq_append (psm : BitVec 5) : psm.setWidth 6 = 0#1 ++ psm := by
  rw [← BitVec.setWidth_eq (0#1 ++ psm), ← or_shiftLeft_eq_setWidth_append, BitVec.setWidth_zero,
    BitVec.zero_shiftLeft, BitVec.or_zero]

/-- A displayed pixel is `pixelAt` its place, and its failed check is reported. -/
theorem framePixel_eq (x y : Nat) (s : State) :
    framePixel x y s =
      (pixelAt s.vram (frameAt s x y), reporting (errorsAt (frameAt s x y)) s) := by
  unfold framePixel
  dsimp only
  rw [psm_setWidth_eq_append]
  cases hloc : frameAt s x y with
  | error e =>
    have hread := (pixel_access_rejected (s := s) hloc 0#32).2
    exact congrArg (fun r => (r.1.1, r.2)) hread
  | ok l =>
    have hread := pixRead_of_locate (s := s) hloc
    rw [errorsAt, reporting_nil]
    exact congrArg (fun r => (r.1.1, r.2)) hread

/-- The pixels from number `k` on, each with its failed check reported: what is reported before a
pixel does not move it. -/
theorem framePixels_eq (w n k : Nat) (s : State) :
    framePixels w n k s =
      ((List.range' k n).map fun j => pixelAt s.vram (frameAt s (j % w) (j / w)),
        reporting ((List.range' k n).flatMap fun j => errorsAt (frameAt s (j % w) (j / w))) s) := by
  induction n generalizing k s with
  | zero => exact congrArg (Prod.mk []) (reporting_nil s).symm
  | succ n ih =>
    rw [framePixels, framePixel_eq]
    dsimp only
    rw [ih, reporting_reporting, List.range'_succ, List.map_cons, List.flatMap_cons]
    rfl

theorem frameErrors_eq_flatMap (s : State) :
    frameErrors s = (List.range (internalW s.priv * internalH s.priv)).flatMap fun k =>
      errorsAt (frameAt s (k % internalW s.priv) (k / internalW s.priv)) := by
  rw [frameErrors, List.filterMap_eq_flatMap_toList]
  congr 1
  funext k
  cases frameAt s (k % internalW s.priv) (k / internalW s.priv) <;> rfl

/-- Settles O59: the call reads the pixels of the internal size by their row-major numbers. -/
theorem framebufferIsTheDisplayedPixels : Obligations.FramebufferIsTheDisplayedPixels := by
  unfold Obligations.FramebufferIsTheDisplayedPixels
  intro s
  have hexec := exec_call .getFramebuffer s
  simp only [callEffect, hostGetFramebuffer, internalSize_eq, framePixels_eq,
    ← List.range_eq_range', ← frameErrors_eq_flatMap] at hexec
  refine ⟨_, ?length, fun x y hx hy => ?pixel, _, rfl, hexec⟩
  case length => rw [List.length_map, List.length_range]
  case pixel =>
    have hxy : InRect (internalW s.priv) (internalH s.priv) (x, y) := ⟨hx, hy⟩
    obtain ⟨hlt, hnumber⟩ := rowMajor_number hxy
    obtain ⟨hcol, hrow⟩ := Prod.mk.inj hnumber
    rw [Nat.mul_comm y, List.getElem?_map, List.getElem?_range hlt, Option.map_some, hcol, hrow]

end Sys2Proof.Proofs
end

section
/-! The family Privileged registers, the flags that nothing sets (45_privileged_registers.md R455,
60_exceptions.md R471): a register write keeps NFIELD and EDWINT, and of the host calls only CSR's
acknowledge and the reset write them, to 0. -/

namespace Sys2Proof.Proofs
open Sys2Proof.Machine

/-- NFIELD and EDWINT are set in `t` only where they were in `s`. -/
structure SetsNoEvent (s t : State) : Prop where
  nfield : t.priv.csrNfield = true → s.priv.csrNfield = true
  edwint : t.priv.csrEdwint = true → s.priv.csrEdwint = true

theorem SetsNoEvent.trans {a b c : State} (h : SetsNoEvent a b) (k : SetsNoEvent b c) :
    SetsNoEvent a c :=
  ⟨h.nfield ∘ k.nfield, h.edwint ∘ k.edwint⟩

theorem SetsNoEvent.of_flags {s t : State} (hn : t.priv.csrNfield = s.priv.csrNfield)
    (he : t.priv.csrEdwint = s.priv.csrEdwint) : SetsNoEvent s t :=
  ⟨hn.symm.trans, he.symm.trans⟩

theorem SetsNoEvent.of_priv {s t : State} (h : t.priv = s.priv) : SetsNoEvent s t :=
  .of_flags (by rw [h]) (by rw [h])

/-- After a reset both flags are clear. -/
theorem SetsNoEvent.of_resetBlock (s : State) : SetsNoEvent s (resetBlock s) :=
  ⟨fun h => (by cases h), fun h => (by cases h)⟩

/-! ### General register writes -/

/-- SIGNAL, FINISH and LABEL write other fields of the privileged registers, and no other register
write writes any. -/
theorem putReg_setsNoEvent (r : GReg) (v : Word64) (s : State) : SetsNoEvent s (putReg r v s) := by
  cases r
  case xyzf2 | xyz2 | xyzf3 | xyz3 => exact .of_priv (commitVertex_priv ..)
  case trxdir => exact .of_priv (trxdirWrite_engineFrame v s).priv
  case hwreg => exact .of_priv (hwregWrite_engineFrame v s).priv
  case signal =>
    obtain ⟨_, _, p, h, hnfield, hedwint⟩ := putSignal_cases v s
    show SetsNoEvent s (putSignal v s)
    rw [h]
    exact .of_flags hnfield hedwint
  all_goals exact .of_flags rfl rfl

theorem writeReg_setsNoEvent (id : BitVec 8) (v : Word64) (src : Src) (s : State) :
    SetsNoEvent s (writeReg id v src s) := by
  rcases writeReg_cases id v src s with ⟨r, _, h⟩ | ⟨_, h⟩ <;> rw [h]
  · exact putReg_setsNoEvent r v s
  · exact .of_priv rfl

/-! ### The packet decoder -/

theorem readTag_setsNoEvent (path : Path) (flg : BitVec 2) (t : TagFields) (s : State) :
    SetsNoEvent s (readTag path flg t s) :=
  .of_priv (by rw [readTag_eq])

theorem packedWrite_setsNoEvent (d : BitVec 4) (q : Qword) (s : State) :
    SetsNoEvent s (packedWrite d q s) := by
  rcases packedWrite_cases d q s with ⟨id, v, src, h⟩ | ⟨v, h⟩ | h | h <;> rw [h]
  · exact writeReg_setsNoEvent id v src s
  · exact (writeReg_setsNoEvent 0x02#8 v .packed s).trans (.of_priv rfl)
  · exact .of_priv rfl
  · exact .of_priv rfl

theorem reglistWrite_setsNoEvent (d : BitVec 4) (v : Word64) (s : State) :
    SetsNoEvent s (reglistWrite d v s) := by
  unfold reglistWrite
  split
  · exact .of_priv rfl
  · exact writeReg_setsNoEvent ..

/-- A slot is a register write and a change of the decoder. -/
theorem slotStep_setsNoEvent (v : Word64) (s : State) : SetsNoEvent s (slotStep v s) :=
  (reglistWrite_setsNoEvent _ v s).trans (.of_priv rfl)

theorem imageStep_priv (q : Qword) (s : State) : (imageStep q s).priv = s.priv := by
  have hlow := (hwregWrite_engineFrame (q.extractLsb' 0 64) s).priv
  show (imageData q s).priv = s.priv
  unfold imageData
  dsimp only
  split
  · exact hlow
  · exact (hwregWrite_engineFrame _ _).priv.trans hlow

theorem payloadStep_setsNoEvent (q : Qword) (s : State) : SetsNoEvent s (payloadStep q s) := by
  cases hf : formatOf s.dec.tag.flg
  case packed =>
    rw [payloadStep_packed hf]
    exact (packedWrite_setsNoEvent _ q s).trans (.of_priv rfl)
  case reglist =>
    have hlow := slotStep_setsNoEvent (q.extractLsb' 0 64) s
    rw [payloadStep_reglist hf]
    unfold reglistStep
    dsimp only
    split
    · exact hlow
    · exact hlow.trans (slotStep_setsNoEvent ..)
  case image =>
    rw [payloadStep_image hf]
    exact .of_priv (imageStep_priv q s)

theorem onQword_setsNoEvent (path : Path) (q : Qword) (s : State) :
    SetsNoEvent s (onQword path q s) := by
  rcases onQword_cases path q s with ⟨_, _, h⟩ | ⟨_, ⟨_, h⟩ | ⟨_, h⟩⟩ <;> rw [h]
  · exact .of_priv rfl
  · exact readTag_setsNoEvent ..
  · exact payloadStep_setsNoEvent q s

theorem endOfStream_setsNoEvent (path : Path) (s : State) :
    SetsNoEvent s (endOfStream path s) := by
  rcases endOfStream_cases path s with h | ⟨e, h⟩ <;> rw [h] <;> exact .of_priv rfl

/-! ### Privileged accesses -/

/-- An acknowledge clears EDWINT or keeps it (R450). -/
theorem csrAck_setsNoEvent (w : Word32) (s : State) :
    SetsNoEvent s (s.setPriv (csrAck w s.priv)) :=
  ⟨id, fun h => (Bool.and_eq_true_iff.mp h).1⟩

theorem csrWrite_setsNoEvent (w : Word32) (s : State) : SetsNoEvent s (csrWrite w s) := by
  rcases csrWrite_cases w s with ⟨_, h⟩ | ⟨_, h⟩ <;> rw [h]
  · exact csrAck_setsNoEvent w s
  · exact .of_resetBlock s

theorem privWrite_setsNoEvent (r : PrivReg) (w m : Word64) (s : State) :
    SetsNoEvent s (privWrite r w m s) := by
  rcases privWrite_cases r w m s with ⟨_, h⟩ | ⟨_, h⟩ <;> rw [h]
  · obtain ⟨hnfield, hedwint⟩ := privStore_flags r w m s.priv
    exact .of_flags hnfield hedwint
  · exact csrWrite_setsNoEvent _ s

theorem privAccess_setsNoEvent (r : PrivReg) (acc : PrivAccess) (s : State) :
    SetsNoEvent s (privAccess r acc s) := by
  rcases acc with v | ⟨_ | _, v⟩ | part
  · exact privWrite_setsNoEvent ..
  · exact privWrite_setsNoEvent ..
  · exact privWrite_setsNoEvent ..
  · exact .of_priv rfl

theorem privUnmapped_setsNoEvent (op : HostOp) (addr : Word32) (s : State) :
    SetsNoEvent s (privUnmapped op addr s) := by
  cases op <;> exact .of_priv rfl

/-! ### Host calls -/

theorem hostWrite64_setsNoEvent (addr : Word32) (v : Word64) (s : State) :
    SetsNoEvent s (hostWrite64 addr v s) := by
  unfold hostWrite64
  split
  · exact writeReg_setsNoEvent ..
  · split
    · exact privAccess_setsNoEvent ..
    · exact privUnmapped_setsNoEvent ..
    · exact privUnmapped_setsNoEvent ..

theorem hostWrite32_setsNoEvent (addr v : Word32) (s : State) :
    SetsNoEvent s (hostWrite32 addr v s) := by
  unfold hostWrite32
  split
  · exact privAccess_setsNoEvent ..
  · exact privUnmapped_setsNoEvent ..

theorem hostRead32_setsNoEvent (addr : Word32) (s : State) :
    SetsNoEvent s (hostRead32 addr s) := by
  unfold hostRead32
  split
  · exact privAccess_setsNoEvent ..
  · exact privUnmapped_setsNoEvent ..

theorem framePixels_priv (w n k : Nat) (s : State) : (framePixels w n k s).2.priv = s.priv := by
  rw [framePixels_eq]
  rfl

theorem callEffect_setsNoEvent (c : Call) (s : State) : SetsNoEvent s (callEffect c s) := by
  cases c
  case feedGif q => exact onQword_setsNoEvent ..
  case sendPath3 q => exact onQword_setsNoEvent ..
  case endOfStream path => exact endOfStream_setsNoEvent ..
  case write64 addr v => exact hostWrite64_setsNoEvent ..
  case write32 addr v => exact hostWrite32_setsNoEvent ..
  case read32 addr => exact hostRead32_setsNoEvent ..
  case readHwreg => exact .of_priv (hwregRead_engineFrame s).priv
  case videoEvent kind => cases kind <;> exact .of_flags rfl rfl
  case reset => exact .of_resetBlock s
  case getDisplayResolution => exact .of_priv rfl
  case getInternalResolution => exact .of_priv rfl
  case getFramebuffer => exact .of_priv (framePixels_priv ..)

/-! ### Every row -/

/-- The state an instruction leaves sets neither flag. -/
def EventFree (s : State) (o : Outcome) : Prop := ∃ t, o = .next t ∧ SetsNoEvent s t

theorem eventFree_next {s t : State} (h : SetsNoEvent s t) : EventFree s (.next t) := ⟨t, rfl, h⟩

/-- A call's row does what the call does. -/
theorem exec_call_eventFree (c : Call) (s : State) : EventFree s (exec c.instr s) :=
  ⟨_, exec_call c s, callEffect_setsNoEvent c s⟩

/-- The rows by what they run: a tag, a PACKED descriptor or a REGLIST slot, a payload qword, the
write of a register, a privileged access, a host call. -/
theorem exec_eventFree (i : Instr) (s : State) : EventFree s (exec i s) := by
  cases i
  case giftagPacked | giftagReglist | giftagImage | giftagFlg3 =>
    exact eventFree_next (readTag_setsNoEvent ..)
  case pkReservedB | pkNop => exact eventFree_next (.of_priv rfl)
  case pkSt sc tc qc =>
    have hwrite := writeReg_setsNoEvent 0x02#8 (sc.setWidth 64 ||| tc.setWidth 64 <<< 32) .packed s
    exact eventFree_next (hwrite.trans (.of_priv rfl))
  case pkPrim | pkRgbaq | pkUv | pkXyzf2 | pkXyz2 | pkTex0_1 | pkTex0_2 | pkClamp_1 | pkClamp_2 |
      pkFog | pkXyzf3 | pkXyz3 | pkAD =>
    exact eventFree_next (writeReg_setsNoEvent ..)
  case rlPrim | rlRgbaq | rlSt | rlUv | rlXyzf2 | rlXyz2 | rlTex0_1 | rlTex0_2 | rlClamp_1 |
      rlClamp_2 | rlFog | rlReservedB | rlXyzf3 | rlXyz3 | rlNoneE | rlNoneF =>
    exact eventFree_next (reglistWrite_setsNoEvent ..)
  case imageQword q => exact eventFree_next (.of_priv (imageStep_priv q s))
  case xyzf2 | xyz2 | xyzf3 | xyz3 => exact eventFree_next (.of_priv (commitVertex_priv ..))
  case trxdir v => exact eventFree_next (putReg_setsNoEvent .trxdir v s)
  case hwreg v => exact eventFree_next (putReg_setsNoEvent .hwreg v s)
  case signal v => exact eventFree_next (putReg_setsNoEvent .signal v s)
  case privPmode | privSmode1 | privSmode2 | privSrfsh | privSynch1 | privSynch2 | privSyncv |
      privDispfb1 | privDisplay1 | privDispfb2 | privDisplay2 | privExtbuf | privExtdata |
      privExtwrite | privBgcolor | privCsr | privImr | privBusdir | privSiglblid =>
    exact eventFree_next (privAccess_setsNoEvent ..)
  case privUnmapped => exact eventFree_next (privUnmapped_setsNoEvent ..)
  case hostFeedGif q => exact exec_call_eventFree (.feedGif q) s
  case hostSendPath3 q => exact exec_call_eventFree (.sendPath3 q) s
  case hostEndOfStream path => exact exec_call_eventFree (.endOfStream path) s
  case hostWrite64 addr v => exact exec_call_eventFree (.write64 addr v) s
  case hostWrite32 addr v => exact exec_call_eventFree (.write32 addr v) s
  case hostRead32 addr => exact exec_call_eventFree (.read32 addr) s
  case hostReadHwreg => exact exec_call_eventFree .readHwreg s
  case hostVideoEvent kind => exact exec_call_eventFree (.videoEvent kind) s
  case hostReset => exact exec_call_eventFree .reset s
  case hostGetFramebuffer => exact exec_call_eventFree .getFramebuffer s
  all_goals exact eventFree_next (.of_flags rfl rfl)

/-- Settles O57: every row leaves a state, and it sets neither flag. -/
theorem nothingSetsNfieldOrEdwint : Obligations.NothingSetsNfieldOrEdwint := by
  unfold Obligations.NothingSetsNfieldOrEdwint
  intro i s t hexec
  obtain ⟨t', hnext, hflags⟩ := exec_eventFree i s
  obtain rfl : t' = t := by
    rw [hnext] at hexec
    exact Host.Outcome.next.inj hexec
  exact ⟨hflags.nfield, hflags.edwint⟩

end Sys2Proof.Proofs
end

section
/-! The family Exceptions, the interrupt level (60_exceptions.md R470): five sources, each a flag
under its own mask bit of IMR. -/

namespace Sys2Proof.Proofs
open Sys2Proof.Machine

/-- A source is up when its flag is set and its mask bit is clear. -/
theorem source_up_iff (flag mask : Bool) :
    (flag && !mask) = true ↔ flag = true ∧ mask = false := by
  rw [Bool.and_eq_true, Bool.not_eq_true']

/-- Settles O60: the level is the disjunction of its sources, and a reset clears every flag. -/
theorem interruptLevel : Obligations.InterruptLevel := by
  unfold Obligations.InterruptLevel
  refine ⟨fun s => ?level, rfl⟩
  simp only [irq, Bool.or_eq_true, source_up_iff, or_assoc, imrSIGMSK, imrFINISHMSK, imrHSMSK,
    imrVSMSK, imrEDWMSK]

end Sys2Proof.Proofs
end

section
/-! The family Exceptions, relations that the GIF paths keep (40_gif_decoder.md R200 to R218): a
qword is register writes, error records and changes of the decoder, one after the other, so a
relation of states that contains these relates the states before and after a qword. -/

namespace Sys2Proof.Proofs
open Sys2Proof.Machine

/-- `R` relates the two states of everything a qword is made of, and of one after the other. -/
structure HoldsAlongGif (R : State → State → Prop) : Prop where
  refl : ∀ s, R s s
  trans : ∀ {a b c}, R a b → R b c → R a c
  setDec : ∀ s d, R s (s.setDec d)
  raise : ∀ e s, R s (raise e s)
  putReg : ∀ r v s, R s (putReg r v s)

namespace HoldsAlongGif

variable {R : State → State → Prop}

theorem writeReg (h : HoldsAlongGif R) (id : BitVec 8) (v : Word64) (src : Src) (s : State) :
    R s (writeReg id v src s) := by
  rcases writeReg_cases id v src s with ⟨r, _, hw⟩ | ⟨_, hw⟩ <;> rw [hw]
  · exact h.putReg r v s
  · exact h.raise _ s

/-- A tag latches its fields, writes PRIM when PRE = 1, and starts the counters. -/
theorem readTag (h : HoldsAlongGif R) (path : Path) (flg : BitVec 2) (t : TagFields) (s : State) :
    R s (readTag path flg t s) := by
  refine h.trans (h.setDec s (latchTag path flg t s.dec)) (h.trans ?prim (h.setDec _ _))
  split
  · exact h.writeReg ..
  · exact h.refl _

theorem packedWrite (h : HoldsAlongGif R) (d : BitVec 4) (q : Qword) (s : State) :
    R s (packedWrite d q s) := by
  rcases packedWrite_cases d q s with ⟨id, v, src, hw⟩ | ⟨v, hw⟩ | hw | hw <;> rw [hw]
  · exact h.writeReg id v src s
  · exact h.trans (h.writeReg 0x02#8 v .packed s) (h.setDec _ _)
  · exact h.raise _ s
  · exact h.refl s

theorem reglistWrite (h : HoldsAlongGif R) (d : BitVec 4) (v : Word64) (s : State) :
    R s (reglistWrite d v s) := by
  unfold Machine.reglistWrite
  split
  · exact h.refl s
  · exact h.writeReg ..

theorem slotStep (h : HoldsAlongGif R) (v : Word64) (s : State) : R s (slotStep v s) :=
  h.trans (h.reglistWrite _ v s) (h.setDec _ _)

theorem reglistStep (h : HoldsAlongGif R) (q : Qword) (s : State) : R s (reglistStep q s) := by
  have hlow := h.slotStep (q.extractLsb' 0 64) s
  unfold Machine.reglistStep
  dsimp only
  split
  · exact hlow
  · exact h.trans hlow (h.slotStep ..)

/-- An IMAGE qword is one or two writes of HWREG and a count. -/
theorem imageStep (h : HoldsAlongGif R) (q : Qword) (s : State) : R s (imageStep q s) := by
  have hlow := h.putReg .hwreg (q.extractLsb' 0 64) s
  refine h.trans ?data (h.setDec _ _)
  unfold imageData
  dsimp only
  split
  · exact hlow
  · exact h.trans hlow (h.putReg .hwreg _ _)

theorem payloadStep (h : HoldsAlongGif R) (q : Qword) (s : State) : R s (payloadStep q s) := by
  unfold Machine.payloadStep
  split
  · exact h.trans (h.packedWrite _ q s) (h.setDec _ _)
  · exact h.reglistStep q s
  · exact h.imageStep q s

theorem onQword (h : HoldsAlongGif R) (path : Path) (q : Qword) (s : State) :
    R s (onQword path q s) := by
  rcases onQword_cases path q s with ⟨_, _, hq⟩ | ⟨_, ⟨_, hq⟩ | ⟨_, hq⟩⟩ <;> rw [hq]
  · exact h.raise _ s
  · exact h.readTag ..
  · exact h.payloadStep q s

end HoldsAlongGif

end Sys2Proof.Proofs
end

section
/-! The family Exceptions, the privileged registers seen from the GIF paths (60_exceptions.md R471,
R474): of the general registers only SIGNAL, FINISH and LABEL reach a privileged one. -/

namespace Sys2Proof.Proofs
open Sys2Proof.Machine Sys2Proof.Claims

/-- `t` follows from `s` with no privileged register but SIGLBLID written, and of the flags only
SIGNAL and FINISH, which are not cleared. -/
structure GifPrivFrame (s t : State) : Prop where
  frame : t.priv = { s.priv with
    siglblid := t.priv.siglblid, csrSignal := t.priv.csrSignal, csrFinish := t.priv.csrFinish }
  signal : s.priv.csrSignal = true → t.priv.csrSignal = true
  finish : s.priv.csrFinish = true → t.priv.csrFinish = true

theorem GifPrivFrame.of_priv {s t : State} (h : t.priv = s.priv) : GifPrivFrame s t where
  frame := by rw [h]
  signal := by rw [h]; exact id
  finish := by rw [h]; exact id

theorem GifPrivFrame.trans {a b c : State} (h : GifPrivFrame a b) (k : GifPrivFrame b c) :
    GifPrivFrame a c where
  frame := by rw [k.frame, h.frame]
  signal := k.signal ∘ h.signal
  finish := k.finish ∘ h.finish

theorem putReg_gifPrivFrame (r : GReg) (v : Word64) (s : State) :
    GifPrivFrame s (putReg r v s) := by
  cases r
  case xyzf2 | xyz2 | xyzf3 | xyz3 => exact .of_priv (commitVertex_priv ..)
  case trxdir => exact .of_priv (trxdirWrite_engineFrame v s).priv
  case hwreg => exact .of_priv (hwregWrite_engineFrame v s).priv
  case signal =>
    show GifPrivFrame s (putSignal v s)
    rw [putSignal_eq]
    exact ⟨rfl, fun _ => rfl, id⟩
  case finish => exact ⟨rfl, id, fun _ => rfl⟩
  case label => exact ⟨rfl, id, id⟩
  all_goals exact .of_priv rfl

theorem gifPrivFrame_holdsAlongGif : HoldsAlongGif GifPrivFrame where
  refl _ := .of_priv rfl
  trans := .trans
  setDec _ _ := .of_priv rfl
  raise _ _ := .of_priv rfl
  putReg := putReg_gifPrivFrame

/-- Settles O36: either path runs the decoder on the qword, and the frame holds along it. -/
theorem gifPathsReachNoPrivilegedRegister : Obligations.GifPathsReachNoPrivilegedRegister := by
  unfold Obligations.GifPathsReachNoPrivilegedRegister
  intro path q s t hexec
  rw [exec_ingress] at hexec
  obtain rfl := Host.Outcome.next.inj hexec
  obtain ⟨hframe, hsignal, hfinish⟩ := gifPrivFrame_holdsAlongGif.onQword path q s
  exact ⟨hframe, hsignal, hfinish⟩

end Sys2Proof.Proofs
end

section
/-! The family Exceptions, what every row keeps of its call (60_exceptions.md R460, R465, R472;
70_reset_and_hazards.md R491): the parameters and the pending calls stay, and the report and the
mark of the run move together, by error records alone. -/

namespace Sys2Proof.Proofs
open Sys2Proof.Machine Sys2Proof.Claims

/-- `t` follows from `s` with the parameters and the pending calls kept, some records appended to
the report, and the mark set by the E_UNMODELLED among them. -/
structure CallFrame (s t : State) : Prop where
  cfg : t.cfg = s.cfg
  inbox : t.inbox = s.inbox
  report : ∃ es, t.out.report = s.out.report ++ es ∧
    t.unmodelled = (s.unmodelled || es.any isUnmodelled)

theorem CallFrame.of_silent {s t : State} (hcfg : t.cfg = s.cfg) (hinbox : t.inbox = s.inbox)
    (hreport : t.out.report = s.out.report) (hmark : t.unmodelled = s.unmodelled) :
    CallFrame s t :=
  ⟨hcfg, hinbox, [], by rw [hreport, List.append_nil], by rw [hmark, List.any_nil, Bool.or_false]⟩

theorem CallFrame.refl (s : State) : CallFrame s s := .of_silent rfl rfl rfl rfl

theorem CallFrame.trans {a b c : State} (h : CallFrame a b) (k : CallFrame b c) :
    CallFrame a c := by
  obtain ⟨es, hreport, hmark⟩ := h.report
  obtain ⟨es', hreport', hmark'⟩ := k.report
  refine ⟨k.cfg.trans h.cfg, k.inbox.trans h.inbox, es ++ es', ?_, ?_⟩
  · rw [hreport', hreport, List.append_assoc]
  · rw [hmark', hmark, List.any_append, Bool.or_assoc]

theorem CallFrame.of_raise (e : Err) (s : State) : CallFrame s (raise e s) :=
  ⟨rfl, rfl, [e], rfl, by simp⟩

theorem CallFrame.of_reporting (es : List Err) (s : State) : CallFrame s (reporting es s) := by
  refine ⟨rfl, rfl, es, rfl, congrArg (s.unmodelled || es.any ·) ?_⟩
  funext e
  cases e <;> rfl

/-- A transfer reports the errors of its pixels. -/
theorem CallFrame.of_moved (m : Memory × List Err) (x : Xfer) (s : State) :
    CallFrame s (moved m x s) :=
  .trans (.of_reporting m.2 s) (.of_silent rfl rfl rfl rfl)

theorem CallFrame.of_setReg (r : RegFile) (s : State) : CallFrame s (s.setReg r) :=
  .of_silent rfl rfl rfl rfl

theorem CallFrame.of_setXfer (x : Xfer) (s : State) : CallFrame s (s.setXfer x) :=
  .of_silent rfl rfl rfl rfl

theorem CallFrame.of_deactivate (s : State) : CallFrame s (deactivate s) :=
  .of_silent rfl rfl rfl rfl

/-! ### The transfer engine -/

theorem localCopy_callFrame (s : State) : CallFrame s (localCopy s) := by
  rw [localCopy, copyPixels_eq_moved]
  exact .of_moved ..

theorem takePixels_callFrame (n : Nat) (s : State) : CallFrame s (takePixels n s) := by
  induction n generalizing s with
  | zero => exact .refl s
  | succ n ih =>
    have hpixel : CallFrame s (takePixel s) := by
      rw [← moved_self s, takePixel_moved, moved_self]
      exact .of_moved ..
    unfold takePixels
    split
    · exact hpixel.trans (ih _)
    · exact .refl s

theorem givePixels_callFrame (n : Nat) (s : State) : CallFrame s (givePixels n s) := by
  induction n generalizing s with
  | zero => exact .refl s
  | succ n ih =>
    have hpixel : CallFrame s (givePixel s) := by
      rw [← moved_self s, givePixel_moved, moved_self]
      exact .of_moved ..
    unfold givePixels
    split
    · exact hpixel.trans (ih _)
    · exact .refl s

theorem trxdirWrite_callFrame (v : Word64) (s : State) : CallFrame s (trxdirWrite v s) := by
  have hlatch (d : Nat) (dir : XferDir) :
      CallFrame s (setDepth d (latchXfer dir (storeTrxdir v s))) := .of_silent rfl rfl rfl rfl
  rcases trxdirWrite_cases v s with ⟨_, h⟩ | ⟨dir, _, ⟨e, _, h⟩ | ⟨d, _, s2, rfl, ⟨_, h⟩ |
    ⟨_, _, h⟩ | ⟨_, _, h⟩⟩⟩ <;> rw [h]
  case inl =>
    unfold cancelXfer
    split <;> exact .of_silent rfl rfl rfl rfl
  case inr.inl => exact .trans (.of_raise (.unmodelled e) s) (.of_silent rfl rfl rfl rfl)
  case inr.inr.inl => exact .of_silent rfl rfl rfl rfl
  case inr.inr.inr.inl =>
    exact ((hlatch d dir).trans (localCopy_callFrame _)).trans (.of_deactivate _)
  case inr.inr.inr.inr => exact .of_silent rfl rfl rfl rfl

theorem hwregWrite_callFrame (v : Word64) (s : State) : CallFrame s (hwregWrite v s) := by
  have hloop (n : Nat) : CallFrame s (takePixels n (pushWord v s)) :=
    .trans (.of_setXfer _ s) (takePixels_callFrame ..)
  rcases hwregWrite_cases v s with ⟨_, h⟩ | ⟨_, _, s2, rfl, ⟨_, h⟩ | ⟨_, h⟩⟩ <;> rw [h]
  case inl => exact .of_raise ..
  case inr.inl => exact ((hloop _).trans (.of_setXfer ..)).trans (.of_deactivate _)
  case inr.inr => exact hloop _

theorem hwregRead_callFrame (s : State) : CallFrame s (hwregRead s).2 := by
  have hloop (n : Nat) : CallFrame s (shiftOut (givePixels n s)) :=
    (givePixels_callFrame n s).trans (.of_setXfer ..)
  rcases hwregRead_cases s with ⟨_, h⟩ | ⟨_, _, s1, rfl, h⟩ <;> rw [h]
  case inl => exact .of_raise ..
  case inr =>
    dsimp only
    split
    · exact (hloop _).trans (.of_deactivate _)
    · exact hloop _

/-! ### General register writes and the GIF paths -/

/-- A commit reports the kick of a reserved type (43_primitive_assembler.md R363). -/
theorem commitVertex_callFrame (x y : BitVec 16) (z : BitVec 32) (kick : Bool) (s : State) :
    CallFrame s (commitVertex x y z kick s) := by
  have hkick (s : State) : CallFrame s (kickPrim s) := by
    rcases kickPrim_cases s with ⟨_, h⟩ | ⟨_, h⟩ <;> rw [h]
    · exact .of_raise ..
    · exact .of_silent rfl rfl rfl rfl
  have hqueue (vq : List Vertex) (s : State) : CallFrame s (s.setVq vq) :=
    .of_silent rfl rfl rfl rfl
  by_cases h : s.vq.length + 1 < vertsNeeded (primTypeOf s.reg.prim)
  · rw [commitVertex_short kick h]
    exact hqueue ..
  · rw [commitVertex_full kick h]
    refine .trans ?_ (hqueue ..)
    cases kick
    case false => exact hqueue ..
    case true => exact (hqueue ..).trans (hkick _)

theorem putReg_callFrame (r : GReg) (v : Word64) (s : State) : CallFrame s (putReg r v s) := by
  rcases putReg_cases r v s with ⟨_, h, _⟩ | ⟨_, h⟩ | ⟨_, _, _, _, _, h, _⟩ | ⟨_, h⟩ | ⟨_, h⟩ |
    ⟨_, h⟩ | ⟨_, h⟩ | ⟨_, h⟩ | ⟨_, h⟩ <;> rw [h]
  · exact .of_setReg ..
  · exact .of_silent rfl rfl rfl rfl
  · exact .trans (.of_setReg ..) (commitVertex_callFrame ..)
  · exact .refl s
  · exact trxdirWrite_callFrame v s
  · exact hwregWrite_callFrame v s
  · rw [putSignal_eq]
    exact .trans (.of_reporting _ s) (.of_silent rfl rfl rfl rfl)
  · exact .of_silent rfl rfl rfl rfl
  · exact .of_silent rfl rfl rfl rfl

theorem callFrame_holdsAlongGif : HoldsAlongGif CallFrame where
  refl := .refl
  trans := .trans
  setDec _ _ := .of_silent rfl rfl rfl rfl
  raise := .of_raise
  putReg := putReg_callFrame

theorem endOfStream_callFrame (path : Path) (s : State) : CallFrame s (endOfStream path s) := by
  rcases endOfStream_cases path s with h | ⟨e, h⟩ <;> rw [h]
  · exact .refl s
  · exact .of_raise e s

/-! ### Privileged accesses -/

/-- A reset keeps what belongs to the host: the report and the mark too. -/
theorem csrWrite_callFrame (w : Word32) (s : State) : CallFrame s (csrWrite w s) := by
  rcases csrWrite_cases w s with ⟨_, h⟩ | ⟨_, h⟩ <;> rw [h] <;> exact .of_silent rfl rfl rfl rfl

theorem privAccess_callFrame (r : PrivReg) (acc : PrivAccess) (s : State) :
    CallFrame s (privAccess r acc s) := by
  have hwrite (w m : Word64) : CallFrame s (privWrite r w m s) := by
    rcases privWrite_cases r w m s with ⟨_, h⟩ | ⟨_, h⟩ <;> rw [h]
    · exact .of_silent rfl rfl rfl rfl
    · exact csrWrite_callFrame _ s
  rcases acc with v | ⟨_ | _, v⟩ | part
  · exact hwrite ..
  · exact hwrite ..
  · exact hwrite ..
  · exact .of_silent rfl rfl rfl rfl

theorem privUnmapped_callFrame (op : HostOp) (addr : Word32) (s : State) :
    CallFrame s (privUnmapped op addr s) := by
  cases op
  case w64 | w32 => exact .of_raise ..
  case r32 => exact .trans (.of_raise (.unknownAddr .r32 addr) s) (.of_silent rfl rfl rfl rfl)

/-! ### Host calls -/

theorem hostWrite64_callFrame (addr : Word32) (v : Word64) (s : State) :
    CallFrame s (hostWrite64 addr v s) := by
  unfold hostWrite64
  split
  · exact callFrame_holdsAlongGif.writeReg ..
  · split
    · exact privAccess_callFrame ..
    · exact privUnmapped_callFrame ..
    · exact privUnmapped_callFrame ..

theorem hostWrite32_callFrame (addr v : Word32) (s : State) :
    CallFrame s (hostWrite32 addr v s) := by
  unfold hostWrite32
  split
  · exact privAccess_callFrame ..
  · exact privUnmapped_callFrame ..

theorem hostRead32_callFrame (addr : Word32) (s : State) : CallFrame s (hostRead32 addr s) := by
  unfold hostRead32
  split
  · exact privAccess_callFrame ..
  · exact privUnmapped_callFrame ..

theorem framePixels_callFrame (w n k : Nat) (s : State) :
    CallFrame s (framePixels w n k s).2 := by
  rw [framePixels_eq]
  exact .of_reporting ..

theorem callEffect_callFrame (c : Call) (s : State) : CallFrame s (callEffect c s) := by
  have hresult (r : Result) (s : State) : CallFrame s (setResult r s) :=
    .of_silent rfl rfl rfl rfl
  cases c
  case feedGif q => exact callFrame_holdsAlongGif.onQword ..
  case sendPath3 q => exact callFrame_holdsAlongGif.onQword ..
  case endOfStream path => exact endOfStream_callFrame ..
  case write64 addr v => exact hostWrite64_callFrame ..
  case write32 addr v => exact hostWrite32_callFrame ..
  case read32 addr => exact hostRead32_callFrame ..
  case readHwreg => exact (hwregRead_callFrame s).trans (hresult ..)
  case videoEvent kind => cases kind <;> exact .of_silent rfl rfl rfl rfl
  case reset => exact .of_silent rfl rfl rfl rfl
  case getDisplayResolution => exact hresult ..
  case getInternalResolution => exact hresult ..
  case getFramebuffer => exact (framePixels_callFrame ..).trans (hresult ..)

/-! ### Every row -/

/-- The instruction completes, and its state keeps what every row keeps. -/
def Completes (s : State) (o : Outcome) : Prop := ∃ t, o = .next t ∧ CallFrame s t

theorem completes_next {s t : State} (h : CallFrame s t) : Completes s (.next t) := ⟨t, rfl, h⟩

/-- A call's row does what the call does. -/
theorem exec_call_completes (c : Call) (s : State) : Completes s (exec c.instr s) :=
  ⟨_, exec_call c s, callEffect_callFrame c s⟩

/-- The rows by what they run: a tag, a PACKED descriptor or a REGLIST slot, a payload qword, the
write of a register, a privileged access, a host call; what remains are the stores. -/
theorem exec_completes (i : Instr) (s : State) : Completes s (exec i s) := by
  have gif := callFrame_holdsAlongGif
  cases i
  case giftagPacked | giftagReglist | giftagImage | giftagFlg3 =>
    exact completes_next (gif.readTag ..)
  case pkReservedB => exact completes_next (.of_raise ..)
  case pkNop => exact completes_next (.refl s)
  case pkSt sc tc qc =>
    have hwrite := gif.writeReg 0x02#8 (sc.setWidth 64 ||| tc.setWidth 64 <<< 32) .packed s
    exact completes_next (hwrite.trans (gif.setDec ..))
  case pkPrim | pkRgbaq | pkUv | pkXyzf2 | pkXyz2 | pkTex0_1 | pkTex0_2 | pkClamp_1 | pkClamp_2 |
      pkFog | pkXyzf3 | pkXyz3 | pkAD =>
    exact completes_next (gif.writeReg ..)
  case rlPrim | rlRgbaq | rlSt | rlUv | rlXyzf2 | rlXyz2 | rlTex0_1 | rlTex0_2 | rlClamp_1 |
      rlClamp_2 | rlFog | rlReservedB | rlXyzf3 | rlXyz3 | rlNoneE | rlNoneF =>
    exact completes_next (gif.reglistWrite ..)
  case imageQword q => exact completes_next (gif.imageStep q s)
  case xyzf2 v => exact completes_next (putReg_callFrame .xyzf2 v s)
  case xyz2 v => exact completes_next (putReg_callFrame .xyz2 v s)
  case xyzf3 v => exact completes_next (putReg_callFrame .xyzf3 v s)
  case xyz3 v => exact completes_next (putReg_callFrame .xyz3 v s)
  case trxdir v => exact completes_next (putReg_callFrame .trxdir v s)
  case hwreg v => exact completes_next (putReg_callFrame .hwreg v s)
  case signal v => exact completes_next (putReg_callFrame .signal v s)
  case unmappedId => exact completes_next (.of_raise ..)
  case privPmode | privSmode1 | privSmode2 | privSrfsh | privSynch1 | privSynch2 | privSyncv |
      privDispfb1 | privDisplay1 | privDispfb2 | privDisplay2 | privExtbuf | privExtdata |
      privExtwrite | privBgcolor | privCsr | privImr | privBusdir | privSiglblid =>
    exact completes_next (privAccess_callFrame ..)
  case privUnmapped => exact completes_next (privUnmapped_callFrame ..)
  case hostFeedGif q => exact exec_call_completes (.feedGif q) s
  case hostSendPath3 q => exact exec_call_completes (.sendPath3 q) s
  case hostEndOfStream path => exact exec_call_completes (.endOfStream path) s
  case hostWrite64 addr v => exact exec_call_completes (.write64 addr v) s
  case hostWrite32 addr v => exact exec_call_completes (.write32 addr v) s
  case hostRead32 addr => exact exec_call_completes (.read32 addr) s
  case hostReadHwreg => exact exec_call_completes .readHwreg s
  case hostVideoEvent kind => exact exec_call_completes (.videoEvent kind) s
  case hostReset => exact exec_call_completes .reset s
  case hostGetFramebuffer => exact exec_call_completes .getFramebuffer s
  all_goals exact completes_next (.of_silent rfl rfl rfl rfl)

/-- Settles O2: every row completes in the frame. -/
theorem everyInstructionCompletes : Obligations.EveryInstructionCompletes := by
  unfold Obligations.EveryInstructionCompletes
  intro i s
  obtain ⟨t, hnext, hframe⟩ := exec_completes i s
  exact ⟨t, hnext, hframe.cfg, hframe.inbox⟩

/-- Settles O3: the records appended are those of the frame, and an E_UNMODELLED is the record of
code 6. -/
theorem reportGrowsAndMarksUnmodelled : Obligations.ReportGrowsAndMarksUnmodelled := by
  unfold Obligations.ReportGrowsAndMarksUnmodelled
  intro i s t hexec
  obtain ⟨t', hnext, hframe⟩ := exec_completes i s
  obtain rfl := Host.Outcome.next.inj (hnext.symm.trans hexec)
  obtain ⟨es, hreport, hmark⟩ := hframe.report
  refine ⟨es, hreport, ?_⟩
  simp only [hmark, Bool.or_eq_true, List.any_eq_true, isUnmodelled, beq_iff_eq]

end Sys2Proof.Proofs
end

section
/-! The family Reset and hazards (70_reset_and_hazards.md R490 to R498): what a reset gives, and how
many words a transfer takes. Each word moves 64 of the bits that the rectangle has left, so their
number says how many words are still to come. -/

namespace Sys2Proof.Proofs
open Sys2Proof.Machine Sys2Proof.Claims

/-! ### Reset (R490, R491, R493) -/

/-- The row and the claim write out the same state. -/
theorem exec_hostReset (s : State) : exec .hostReset s = .next (resetState s) := rfl

theorem resetState_resetState (s : State) : resetState (resetState s) = resetState s := rfl

/-- Settles O4: as a step, a reset starts from the empty outputs of its call and keeps them. -/
theorem resetGivesEveryElementItsValue : Obligations.ResetGivesEveryElementItsValue := by
  unfold Obligations.ResetGivesEveryElementItsValue
  refine ⟨fun s => ⟨exec_hostReset s, ?again⟩, fun s rest hinbox => ?step, rfl⟩
  case again => rw [exec_hostReset, resetState_resetState]
  case step =>
    have hstep : step s = .next (resetState (beginCall rest s)) :=
      (step_of_inbox_cons hinbox).trans (exec_hostReset _)
    exact ⟨_, hstep, rfl, rfl⟩

/-! ### The bits that a transfer has left -/

/-- The bits of the rectangle still to come through HWREG: those of the pixels left, but for the
bits already in the stream of a host-to-local transfer, and with those still in the stream of a
local-to-host one. -/
def bitsLeft (x : Xfer) : Nat :=
  match x.dir with
  | .hostToLocal => (x.total - x.pixels) * x.bitDepth - x.streamN
  | _ => (x.total - x.pixels) * x.bitDepth + x.streamN

theorem bitsLeft_hostToLocal {x : Xfer} (h : x.dir = .hostToLocal) :
    bitsLeft x = (x.total - x.pixels) * x.bitDepth - x.streamN := by
  rw [bitsLeft, h]

theorem bitsLeft_localToHost {x : Xfer} (h : x.dir = .localToHost) :
    bitsLeft x = (x.total - x.pixels) * x.bitDepth + x.streamN := by
  rw [bitsLeft, h]

/-- At the start of a transfer, the words of R498 are those of the bits left. -/
theorem hwregWords_eq_bitsLeft {x : Xfer} (hpixels : x.pixels = 0) (hn : x.streamN = 0) :
    hwregWords x = (bitsLeft x + 63) / 64 := by
  unfold hwregWords bitsLeft
  cases x.dir <;> simp [hpixels, hn]

/-- An active transfer has a mode's depth. -/
theorem bitDepth_pos {r : RegFile} {x : Xfer} (hx : XferInv r x) (hactive : x.active = true) :
    0 < x.bitDepth := by
  obtain ⟨_, _, _, _, _, hbusy⟩ := hx
  obtain ⟨_, hdepth, _⟩ := hbusy hactive
  exact (xferDepth_range hdepth).1

/-- An active host transfer has something left to move (R398). -/
theorem bitsLeft_pos {r : RegFile} {x : Xfer} (hx : XferInv r x) (hactive : x.active = true) :
    0 < bitsLeft x := by
  have hd := bitDepth_pos hx hactive
  obtain ⟨_, _, _, _, _, hbusy⟩ := hx
  obtain ⟨hll, _, _, htake, hgive⟩ := hbusy hactive
  have hpixel (hleft : x.pixels < x.total) : x.bitDepth ≤ (x.total - x.pixels) * x.bitDepth :=
    Nat.le_mul_of_pos_left _ (Nat.sub_pos_of_lt hleft)
  cases hdir : x.dir with
  | hostToLocal =>
    obtain ⟨hleft, hshort⟩ := htake hdir
    rw [bitsLeft_hostToLocal hdir]
    have := hpixel hleft
    omega
  | localToHost =>
    rw [bitsLeft_localToHost hdir]
    rcases (hgive hdir).2 with hleft | hstream
    · have := hpixel hleft
      omega
    · omega
  | localToLocal => exact absurd hdir hll

/-! ### One word -/

/-- `t` follows from `s` by one word of its transfer: the word was the last one and the transfer has
ended, or it moved 64 bits and the transfer goes on. -/
inductive WordMoved (s t : State) : Prop
  | ended (hlast : bitsLeft s.xfer ≤ 64) (hactive : t.xfer.active = false)
      (hpixels : t.xfer.pixels = t.xfer.total)
  | goesOn (hinv : XferInv t.reg t.xfer) (hactive : t.xfer.active = true)
      (hdir : t.xfer.dir = s.xfer.dir) (hbits : bitsLeft t.xfer + 64 = bitsLeft s.xfer)

/-- The instruction `i` moves a word of every active transfer of direction `dir`. -/
def MovesWord (dir : XferDir) (i : Instr) : Prop :=
  ∀ s : State, XferInv s.reg s.xfer → s.xfer.active = true → s.xfer.dir = dir →
    ∃ t, exec i s = .next t ∧ WordMoved s t

/-- The pixels taken from a stream are whole ones. -/
theorem wholePixels_mul_le (x : Xfer) (n : Nat) : wholePixels x n * x.bitDepth ≤ n :=
  (Nat.mul_le_mul_right _ (Nat.min_le_left ..)).trans (Nat.div_mul_le_self ..)

/-- Where a write leaves pixels, they take more bits than its stream held (R392). -/
theorem le_of_wholePixels {x : Xfer} {n : Nat} (hd : 0 < x.bitDepth)
    (hleft : x.pixels + wholePixels x n < x.total) : n ≤ (x.total - x.pixels) * x.bitDepth := by
  have hquot : n / x.bitDepth < x.total - x.pixels := by
    unfold wholePixels at hleft
    omega
  exact ((Nat.div_lt_iff_lt_mul hd).mp hquot).le

/-- An HWREG write takes the 64 bits of its word off a host-to-local transfer (R392, R393). -/
theorem hwreg_movesWord (v : Word64) : MovesWord .hostToLocal (.hwreg v) := by
  intro s hx hactive hdir
  have hd := bitDepth_pos hx hactive
  have ⟨_, hpixels, _, hstream, _, _⟩ := hx
  obtain ⟨k, hk, b, -, m, -, hexec⟩ := hwregWriteTakesPixels v s hactive hdir hd hstream hpixels
  have hinv := hwregWrite_xferInv v hx
  rw [Host.Outcome.next.inj ((exec_hwreg v s).symm.trans hexec)] at hinv
  have hle : k ≤ s.xfer.total - s.xfer.pixels := hk.trans_le (Nat.min_le_right _ _)
  have hfit : k * s.xfer.bitDepth ≤ s.xfer.streamN + 64 := hk ▸ wholePixels_mul_le ..
  refine ⟨_, hexec, ?_⟩
  by_cases hlast : s.xfer.pixels + k = s.xfer.total
  case pos =>
    refine .ended ?_ (by simp [hlast]) hlast
    rw [bitsLeft_hostToLocal hdir, ← hlast, Nat.add_sub_cancel_left]
    omega
  case neg =>
    refine .goesOn hinv (by simp [hlast]) rfl ?_
    have hmore : s.xfer.streamN + 64 ≤ (s.xfer.total - s.xfer.pixels) * s.xfer.bitDepth := by
      subst hk
      exact le_of_wholePixels hd (by omega)
    rw [bitsLeft_hostToLocal hdir, bitsLeft_hostToLocal (by exact hdir)]
    simp only [if_neg hlast, Nat.sub_add_eq, Nat.sub_mul _ k]
    omega

/-- Where a read leaves pixels, those it fetched fill the word (R394). -/
theorem word_le_of_fetchedPixels {x : Xfer} (hd : 0 < x.bitDepth)
    (hleft : x.pixels + fetchedPixels x < x.total) :
    64 ≤ x.streamN + fetchedPixels x * x.bitDepth := by
  have hall : fetchedPixels x = (64 - x.streamN + x.bitDepth - 1) / x.bitDepth := by
    unfold fetchedPixels at hleft ⊢
    omega
  have hquot := Nat.lt_div_mul_add (a := 64 - x.streamN + x.bitDepth - 1) hd
  rw [hall]
  omega

/-- `read_HWREG` takes the 64 bits of its word off a local-to-host transfer (R394, R395). -/
theorem hostReadHwreg_movesWord : MovesWord .localToHost .hostReadHwreg := by
  intro s hx hactive hdir
  have hd := bitDepth_pos hx hactive
  have ⟨_, hpixels, _, hstream, _, _⟩ := hx
  obtain ⟨k, hk, b, -, n, hn, r, -, hexec⟩ :=
    hwregReadGivesPixels s hactive hdir hd hstream hpixels
  have hinv : XferInv (setResult (.word64 (hwregRead s).1) (hwregRead s).2).reg
      (setResult (.word64 (hwregRead s).1) (hwregRead s).2).xfer := hwregRead_xferInv hx
  rw [Host.Outcome.next.inj ((exec_hostReadHwreg s).symm.trans hexec)] at hinv
  have hle : k ≤ s.xfer.total - s.xfer.pixels := hk.trans_le (Nat.min_le_right _ _)
  refine ⟨_, hexec, ?_⟩
  by_cases hend : s.xfer.pixels + k = s.xfer.total ∧ n ≤ 64
  case pos =>
    obtain ⟨hlast, hword⟩ := hend
    refine .ended ?_ (by simp [hlast, hword]) hlast
    rw [bitsLeft_localToHost hdir, ← hlast, Nat.add_sub_cancel_left]
    omega
  case neg =>
    have hon : (!(s.xfer.pixels + k == s.xfer.total && decide (n ≤ 64))) = true := by
      rw [beq_and_decide, decide_eq_false hend, Bool.not_false]
    refine .goesOn hinv hon rfl ?_
    have hfull : 64 ≤ n := by
      by_cases hlast : s.xfer.pixels + k = s.xfer.total
      · omega
      · subst hk
        exact hn ▸ word_le_of_fetchedPixels hd (by omega)
    rw [bitsLeft_localToHost hdir, bitsLeft_localToHost (by exact hdir)]
    have hfetched := Nat.mul_le_mul_right s.xfer.bitDepth hle
    simp only [Nat.sub_add_eq, Nat.sub_mul _ k]
    omega

/-! ### A list of words -/

/-- Every row completes, so every list of them does. -/
theorem runAll_completes (is : List Instr) (s : State) : ∃ t, runAll is s = .next t := by
  induction is generalizing s with
  | nil => exact ⟨s, rfl⟩
  | cons i is ih =>
    obtain ⟨t, hexec, _⟩ := exec_completes i s
    rw [runAll_cons_of_next hexec]
    exact ih t

/-- A list of words ends the transfer exactly when it is as long as the bits left ask for. -/
theorem runAll_movesWord {dir : XferDir} {is : List Instr} (his : ∀ i ∈ is, MovesWord dir i)
    {s : State} (hx : XferInv s.reg s.xfer) (hactive : s.xfer.active = true)
    (hdir : s.xfer.dir = dir) :
    ∃ t, runAll is s = .next t ∧
      (is.length < (bitsLeft s.xfer + 63) / 64 → t.xfer.active = true) ∧
      (is.length = (bitsLeft s.xfer + 63) / 64 →
        t.xfer.active = false ∧ t.xfer.pixels = t.xfer.total) := by
  have hpos := bitsLeft_pos hx hactive
  induction is generalizing s with
  | nil =>
    refine ⟨s, rfl, fun _ => hactive, fun hnone => ?_⟩
    rw [List.length_nil] at hnone
    omega
  | cons i is ih =>
    obtain ⟨hi, his⟩ := List.forall_mem_cons.mp his
    obtain ⟨t, hexec, hmoved⟩ := hi s hx hactive hdir
    rw [runAll_cons_of_next hexec, List.length_cons]
    cases hmoved with
    | ended hlast hoff hpixels =>
      cases is with
      | nil =>
        refine ⟨t, rfl, fun hshort => ?_, fun _ => ⟨hoff, hpixels⟩⟩
        rw [List.length_nil] at hshort
        omega
      | cons j js =>
        obtain ⟨u, hrun⟩ := runAll_completes (j :: js) t
        rw [List.length_cons]
        exact ⟨u, hrun, fun _ => by omega, fun _ => by omega⟩
    | goesOn hinv hon hsame hbits =>
      obtain ⟨u, hrun, hshort, hexact⟩ :=
        ih his hinv hon (hsame.trans hdir) (bitsLeft_pos hinv hon)
      exact ⟨u, hrun, fun _ => hshort (by omega), fun _ => hexact (by omega)⟩

/-- Settles O48: each access moves a word, and after the last one the engine is at rest. -/
theorem transferTakesItsWords : Obligations.TransferTakesItsWords := by
  unfold Obligations.TransferTakesItsWords
  refine ⟨fun vs s hx hactive hdir hpixels hn => ?write,
    fun n s hx hactive hdir hpixels hn => ?read⟩
  case write =>
    have his : ∀ i ∈ vs.map Instr.hwreg, MovesWord .hostToLocal i :=
      List.forall_mem_map.mpr fun v _ => hwreg_movesWord v
    obtain ⟨t, hrun, hshort, hexact⟩ := runAll_movesWord his hx hactive hdir
    rw [List.length_map, ← hwregWords_eq_bitsLeft hpixels hn] at hshort hexact
    refine ⟨t, hrun, hshort, fun hlen => ?_⟩
    obtain ⟨hoff, hall⟩ := hexact hlen
    refine ⟨hoff, hall, fun v => (hwregWithoutTransferIsReported v t).1 ?_⟩
    simp [hoff]
  case read =>
    have his : ∀ i ∈ List.replicate n Instr.hostReadHwreg, MovesWord .localToHost i :=
      fun i hi => List.eq_of_mem_replicate hi ▸ hostReadHwreg_movesWord
    obtain ⟨t, hrun, hshort, hexact⟩ := runAll_movesWord his hx hactive hdir
    rw [List.length_replicate, ← hwregWords_eq_bitsLeft hpixels hn] at hshort hexact
    refine ⟨t, hrun, hshort, fun hlen => ?_⟩
    obtain ⟨hoff, hall⟩ := hexact hlen
    obtain ⟨r, rfl, hexec⟩ := (hwregWithoutTransferIsReported 0#64 t).2 (by simp [hoff])
    exact ⟨hoff, hall, _, hexec, rfl⟩

end Sys2Proof.Proofs
end
